-- ==== Sys2Proof/Word.lean ====
section
/-!
DEFINITION. The byte of a telegram: the only machine word the manual's text treats as bits.
Counts and engineering quantities are natural numbers and integers (manual section 1.6).
-/

namespace Sys2Proof

/-- One byte of a telegram or of a service object. -/
abbrev Byte := BitVec 8

end Sys2Proof
end

