-- ==== Sys2Proof/Syntax.lean ====
section
/-!
DEFINITION. The commands that reach the NC48 from outside, one constructor of `Instr` per row of
spec/opcode_table.json, and the telegram most of them bring (section 3.8, R41, R63).
-/

namespace Sys2Proof

/-- The two line ports (section 1.6). -/
inductive Side where
  | west | east
  deriving DecidableEq, Repr

/-- The opposite port. -/
def Side.other : Side → Side
  | .west => .east
  | .east => .west

/-- Transmit classes (section 3.8, header byte 1). -/
inductive TelegramClass where
  | alarm | control | sample | service
  deriving DecidableEq, Repr

/-- Route modes (section 3.8, header byte 2): PATH, END, BOTH_ENDS, ZONE. -/
inductive Route where
  | path | toEnd | bothEnds | zone
  deriving DecidableEq, Repr

/-- The 14 telegram kinds (section 3.8, header byte 0). -/
inductive Kind where
  | idle | sample | report | order | orderReply | zoneOrder | zoneReply | bind | unbind
  | bindReply | teardown | service | serviceReply | pathNotice
  deriving DecidableEq, Repr

/-- The header fields a telegram command leaves to its sender: kind and route mode come from the
command itself, the body length from the body. -/
structure Header where
  cls : TelegramClass
  hop : Byte
  target : Byte
  origin : Byte
  tag : Byte
  deriving DecidableEq, Repr

/-- One telegram without its CRC trailer, which R63 computes from the rest. -/
structure Telegram where
  kind : Kind
  cls : TelegramClass
  route : Route
  hop : Byte
  target : Byte
  origin : Byte
  tag : Byte
  body : List Byte
  deriving DecidableEq, Repr

/-- A telegram of a given kind and route mode with the sender's header fields. -/
def Header.telegram (h : Header) (k : Kind) (r : Route) (body : List Byte) : Telegram :=
  { kind := k, cls := h.cls, route := r, hop := h.hop, target := h.target, origin := h.origin,
    tag := h.tag, body := body }

/-- END or BOTH_ENDS, the two route modes that R57 treats alike. -/
def endRoute (both : Bool) : Route := if both then .bothEnds else .toEnd

/-- The two object types whose writes are refused with DENIED (R136, R171). -/
inductive DeniedObject where
  | zoneEntry | reportQueue
  deriving DecidableEq, Repr

/-- The commands, one per row of spec/opcode_table.json.

A telegram row carries the side the telegram is received on, the header fields its sender chooses
and the body (or the body's fields where the row names one order or one service operation). A
timer row carries the owner of the timer. The other rows carry what the niche side supplies: strap
pins, the eight loop currents in nanoamperes (R1, log entry 38), pin levels, a contact's new level. -/
inductive Instr where
  | powerOnReset (straps : BitVec 7)
  | acquisitionCycle (currents : Vector Nat 8)
  | badTelegram (side : Side) (bytes : List Byte)
  | goodTelegramProving (side : Side) (telegram : Telegram)
  | idleTelegram (side : Side) (header : Header) (body : List Byte)
  | pathTelegram (side : Side) (kind : Kind) (header : Header) (body : List Byte)
  | endTelegram (side : Side) (both : Bool) (kind : Kind) (header : Header) (body : List Byte)
  | sampleTelegram (side : Side) (both : Bool) (header : Header) (body : List Byte)
  | zoneOrder (side : Side) (header : Header) (body : List Byte)
  | zoneReply (side : Side) (both : Bool) (header : Header) (body : List Byte)
  | bind (side : Side) (header : Header) (body : List Byte)
  | bindReply (side : Side) (both : Bool) (header : Header) (body : List Byte)
  | unbind (side : Side) (header : Header) (body : List Byte)
  | teardown (side : Side) (header : Header) (body : List Byte)
  | fanSet (side : Side) (header : Header) (object first second : Byte)
  | fanRelease (side : Side) (header : Header) (object first second : Byte)
  | tripReset (side : Side) (header : Header) (object first second : Byte)
  | doorRelease (side : Side) (header : Header) (object first second : Byte)
  | alertClear (side : Side) (header : Header) (object first second : Byte)
  | publishNow (side : Side) (header : Header) (object first second : Byte)
  | read (side : Side) (header : Header) (object index part : Byte)
  | startOperation (side : Side) (header : Header) (object index part : Byte)
  | restart (side : Side) (header : Header) (object index part : Byte)
  | writeNodeParameters (side : Side) (header : Header) (index part : Byte) (data : List Byte)
  | writeChannel (side : Side) (header : Header) (index part : Byte) (data : List Byte)
  | writeContributionEntry (side : Side) (header : Header) (index part : Byte) (data : List Byte)
  | writeGroup (side : Side) (header : Header) (index part : Byte) (data : List Byte)
  | writeDoor (side : Side) (header : Header) (index part : Byte) (data : List Byte)
  | writeLeg (side : Side) (header : Header) (index part : Byte) (data : List Byte)
  | writeInputProfile (side : Side) (header : Header) (index part : Byte) (data : List Byte)
  | writeDenied (side : Side) (header : Header) (object : DeniedObject) (index part : Byte)
      (data : List Byte)
  | silenceTimerExpiry (side : Side)
  | errorScoreDecay (side : Side)
  | idleTimerExpiry (side : Side)
  | transmissionComplete (side : Side)
  | debouncedLevelChange (input : Fin 24) (level : Bool)
  | firstReading (input : Fin 24) (level : Bool)
  | ageingStep
  | drainTick
  | startTimerExpiry (group : Fin 4)
  | stageUpTimerExpiry (group : Fin 4)
  | coastTimerExpiry (group : Fin 4)
  | restTimerExpiry (group : Fin 4)
  | runMinTimerExpiry (group : Fin 4)
  | windmillTimerExpiry (group : Fin 4)
  | jamTimerExpiry (door : Fin 2)
  | relatchTimerExpiry (door : Fin 2)
  | leftOpenTimerExpiry (door : Fin 2)
  | assistTailTimerExpiry (door : Fin 2)
  | faultTimerExpiry (door : Fin 2)
  | ackWaitTimerExpiry (zone : Fin 32)
  | bindWaitTimerExpiry (zone : Fin 32)
  | samplingStrobe (pins : BitVec 24)
  | uptimeSecond
  deriving DecidableEq, Repr

end Sys2Proof
end

