-- ==== Sys2Proof/Decode.lean ====
section
/-!
DEFINITION. Commands as words. spec/opcode_table.json gives bits for none of its rows (a block has no
instruction encoding), so no word spells a command (log entry 29).
-/

namespace Sys2Proof

/-- The command that a word spells by the table's bits: none, for the table gives no row any. -/
def decodeTableWord (_nbits _w : Nat) : Option Instr := none

end Sys2Proof
end

