-- ==== Sys2Proof/Config.lean ====
section
/-!
DEFINITION. What the part fixes once (capacities and fixed intervals of the manual) and the one
value the manual leaves open while the machine goes on.
-/

namespace Sys2Proof.Config

/-- Capacity of the ALARM queue of a side (R50). -/
def alarmCapacity : Nat := 6
/-- Capacity of the CONTROL queue of a side (R50). -/
def controlCapacity : Nat := 6
/-- Capacity of the SAMPLE queue of a side (R50). -/
def sampleCapacity : Nat := 12
/-- Capacity of the SERVICE queue of a side (R50). -/
def serviceCapacity : Nat := 4
/-- Capacity of the report queue (R165). -/
def reportCapacity : Nat := 16
/-- The loop current of the converter's full scale, 24 mA in nanoamperes (R1). -/
def fullScale : Nat := 24000000
/-- The idle timer of a side, 50 ms in ticks (R45). -/
def idleTicks : Nat := 5
/-- The fault timer of a door, 1 s in ticks (R131). -/
def faultTicks : Nat := 100
/-- Ticks in one second (section 1.3, timebase). -/
def ticksPerSecond : Nat := 100
/-- The greatest uptime count, where it stays (R179). -/
def maxUptime : Nat := 4294967295

/-- FREE VALUE (log entry 11): whether the overload contact is taken before the run feedback when a
group enters STARTING with both already true. R107 and R112 allow either order. The argument is
the number of such choices made before. -/
opaque tripFirst : Nat → Bool

end Sys2Proof.Config
end

