-- ==== Sys2Proof/Machine/State.lean ====
section
/-!
DEFINITION. Everything the manual gives the NC48 to hold, block by block (section 1.3), as plain
data, and its value after power-on reset. `Node` is the part itself; `State` is the part together
with the commands that wait for it.
-/

namespace Sys2Proof.Machine

/-! ### Stops -/

/-- No rule of the manual stops the part: every command has an effect or changes nothing. The type
is therefore empty, and no meaning can answer with a fault. -/
inductive Fault where
  deriving DecidableEq, Repr

/-- Refusals. -/
inductive Refusal where
  /-- Raised by an arm of `exec` whose command has no meaning yet (none at present): safe, the
  machine stops where the part goes on. -/
  | notModelled (mnemonic : String)
  deriving DecidableEq, Repr

/-! ### Named values -/

/-- Airflow and thrust directions (section 1.6). -/
inductive Direction where
  | eastward | westward
  deriving DecidableEq, Repr

/-- Feeder legs (section 1.6). -/
inductive Leg where
  | l1 | l2
  deriving DecidableEq, Repr

/-- The other feeder leg. -/
def Leg.other : Leg → Leg
  | .l1 => .l2
  | .l2 => .l1

/-- Authority of a target, and priority of a start-queue entry (R98, R89). -/
inductive Authority where
  | normal | fire
  deriving DecidableEq, Repr

/-- Run states (section 11.4). -/
inductive RunState where
  | unconfigured | operational | isolated
  deriving DecidableEq, Repr

/-- Channel kinds (R4). -/
inductive ChannelKind where
  | co | no2 | opacity | velocity | temperature | dpressure | generic
  deriving DecidableEq, Repr

/-- Channel states (section 1.4 of chapter 1). -/
inductive ChannelState where
  | off | acquiring | good | held | fault
  deriving DecidableEq, Repr

/-- Levels of a channel (section 2.1). -/
inductive Level where
  | normal | raised | high | critical
  deriving DecidableEq, Repr

/-- States of a contribution entry (section 4.1). -/
inductive EntryState where
  | empty | live | held | lapsed
  deriving DecidableEq, Repr

/-- Where a contribution entry's readings come from (section 4.1). -/
inductive Source where
  | none
  | here
  | node (id : Nat)
  deriving DecidableEq, Repr

/-- States of a side unit (section 3.2). -/
inductive SideState where
  | down | proving | up
  deriving DecidableEq, Repr

/-- States of a fan group (section 6.1). -/
inductive GroupState where
  | off | windmillWait | queued | starting | running | stopping | tripped | locked
  deriving DecidableEq, Repr

/-- Why a group is TRIPPED (section 6.1). -/
inductive TripCause where
  | noFeedback | overload | feedbackLost
  deriving DecidableEq, Repr

/-- Purpose of a start-queue entry and of the start slot (R89, R92). -/
inductive Purpose where
  | start | stageUp
  deriving DecidableEq, Repr

/-- States of an escape door (section 7.3). -/
inductive DoorState where
  | secured | released | opened | jammed | fault
  deriving DecidableEq, Repr

/-- States of a zone entry (section 8.1). -/
inductive ZoneState where
  | free | binding | bound
  deriving DecidableEq, Repr

/-- Zone modes (section 8.1). -/
inductive Mode where
  | normal | alert | fire | quiet
  deriving DecidableEq, Repr

/-- Zone outcomes (section 3.8). -/
inductive ZoneOutcome where
  | ok | supplyShort | groupUnavailable | budgetShort | zoneUnbound | wrongSide | superseded
  | downstreamTimeout | zoneTornDown
  deriving DecidableEq, Repr

/-- Resistor on an input pin (section 7.1). -/
inductive Pull where
  | none | up | down
  deriving DecidableEq, Repr

/-- Which edges of a NICHE_IN are reported (section 7.1). -/
inductive EdgeSelect where
  | rising | falling | both
  deriving DecidableEq, Repr

/-- What a reported NICHE_IN edge does (section 7.1). -/
inductive InputAction where
  | report | alert
  deriving DecidableEq, Repr

/-- Report kinds (section 10.5). -/
inductive ReportKind where
  | sensorFault | sensorRestored | levelChange | fireSuspect | sideUp | sideDown
  | neighbourChanged | txDropped | staleSource | supplyLost | supplyRestored | fanRunning
  | fanStopped | startTimeout | fanTrip | fanLocked | windmillOverride | nicheInput | doorForced
  | doorOpened | doorClosed | doorLeftOpen | doorJammed | doorFault | zoneLateReply | bindTimeout
  | zoneTakeover | isolated | rejoined | idInvalid
  deriving DecidableEq, Repr

/-- Severity of a report (section 10.1). -/
inductive Severity where
  | info | alarm
  deriving DecidableEq, Repr

/-- A timer: the remaining ticks while it runs, or idle. -/
abbrev Timer := Option Nat

/-! ### Sensor channels (chapters 1 and 2) -/

/-- The compensation term of a channel (section 1.3). -/
structure Compensation where
  source : Fin 8
  coeff : Int
  ref : Int
  deriving DecidableEq, Repr

/-- Configuration part of a channel record (sections 1.3 and 2.1). -/
structure ChannelConfig where
  enabled : Bool := false
  kind : ChannelKind := .generic
  offset : Nat := 0
  gain : Nat := 0
  compensation : Option Compensation := none
  loopLow : Nat := 9830
  loopHigh : Nat := 57344
  loopHold : Nat := 5
  k : Nat := 0
  dose : Bool := false
  m : Nat := 0
  t1 : Nat := 32767
  t2 : Nat := 32767
  t3 : Nat := 32767
  hysteresis : Nat := 0
  deriving DecidableEq, Repr

/-- Quality flags of a cycle result (R15). -/
structure Quality where
  sat : Bool := false
  compLost : Bool := false
  held : Bool := false
  fault : Bool := false
  deriving DecidableEq, Repr

/-- A channel record with its measurement record (sections 1.3 and 2.1). -/
structure Channel where
  config : ChannelConfig := {}
  state : ChannelState := .off
  rawCode : Nat := 0
  holdCount : Nat := 0
  restoreCount : Nat := 0
  hasValue : Bool := false
  smoothing : Int := 0
  published : Int := 0
  quality : Quality := {}
  openSum : Nat := 0
  openCount : Nat := 0
  closedSlots : List Nat := []
  twa : Option Nat := none
  level : Level := .normal
  levelChanged : Bool := false
  deriving DecidableEq, Repr

/-- The sensor front end and the measurement chain: the channels, the fire-suspect latch, the
publication counter and the sample sequence number (section 2.1). -/
structure Sensors where
  channels : Vector Channel 8
  fireSuspect : Bool
  publicationCounter : Nat
  sampleSequence : Byte
  deriving DecidableEq, Repr

/-! ### Contribution table (chapter 4) -/

/-- A contribution entry (section 4.1). -/
structure Entry where
  source : Source := .none
  channel : Nat := 0
  weight : Nat := 0
  state : EntryState := .empty
  level : Level := .normal
  value : Int := 0
  age : Nat := 0
  deriving DecidableEq, Repr

/-- The contribution unit: the table and the demand (sections 4.1 and 4.3). -/
structure Contribution where
  entries : Vector Entry 16
  demand : Nat
  deriving DecidableEq, Repr

/-! ### The niche line (chapter 3) -/

/-- The source of a queued telegram (R50). -/
inductive QueueSource where
  | here
  | forwarded (arrival : Side)
  deriving DecidableEq, Repr

/-- An entry of a transmit queue (R50). -/
structure Queued where
  telegram : Telegram
  source : QueueSource
  deriving DecidableEq, Repr

/-- A side unit with its four class queues and its transmitter (section 3.2). -/
structure SideUnit where
  state : SideState := .down
  provingCount : Nat := 0
  errorScore : Nat := 0
  silence : Timer := none
  idle : Timer := some Config.idleTicks
  neighbourId : Option Nat := none
  neighbourRunState : Option RunState := none
  alarm : List Queued := []
  control : List Queued := []
  sample : List Queued := []
  service : List Queued := []
  transmitting : Option Queued := none
  deriving DecidableEq, Repr

/-- The two side units. -/
structure Line where
  west : SideUnit
  east : SideUnit
  deriving DecidableEq, Repr

/-! ### Fan groups and their supply (chapters 5 and 6) -/

/-- A target of a fan group (section 6.2). -/
structure Target where
  stage : Nat
  direction : Direction
  authority : Authority
  deriving DecidableEq, Repr

/-- Configuration part of a group record (section 6.1); the three time-outs in seconds. -/
structure GroupConfig where
  zone : Option (Fin 32) := none
  highPresent : Bool := false
  i1 : Nat := 0
  i2 : Nat := 0
  startTime : Nat := 15
  coastTime : Nat := 180
  runMin : Nat := 60
  restMin : Nat := 120
  airflowChannel : Option (Fin 8) := none
  windmillLimit : Nat := 200
  windmillWait : Nat := 60
  defaultDirection : Direction := .eastward
  nearDoor : Bool := false
  fireExempt : Bool := false
  d1 : Nat := 1000
  d2 : Nat := 1000
  hd : Nat := 0
  deriving DecidableEq, Repr

/-- A group's configuration and its two target sources that are not the zone's (R97, R75). -/
structure GroupSetup where
  config : GroupConfig := {}
  orderTarget : Option (Nat × Direction) := none
  demandStage : Nat := 0
  deriving DecidableEq, Repr

/-- The machine of a group: its status fields, its three outputs, its timers (section 6.1) and its
supply record (section 5.2). `presented` is the effective target last presented to the group. -/
structure Fan where
  state : GroupState := .stopping
  stage : Nat := 0
  direction : Direction := .eastward
  fwd : Bool := false
  rev : Bool := false
  high : Bool := false
  tripCause : Option TripCause := none
  pending : Option Target := none
  presented : Target := ⟨0, .eastward, .normal⟩
  start : Timer := none
  stageUp : Timer := none
  coast : Timer := none
  runMin : Timer := none
  rest : Timer := none
  windmill : Timer := none
  leg : Option Leg := none
  draw : Nat := 0
  reserveZone : Option (Fin 32) := none
  reserveTaken : Nat := 0
  deriving DecidableEq, Repr

/-- A leg record; the free current is never stored (section 5.1, R77). -/
structure LegRecord where
  capacity : Nat := 0
  available : Bool := false
  drawn : Nat := 0
  reserved : Nat := 0
  deriving DecidableEq, Repr

/-- The reserve fields of a zone entry (section 8.1), kept by the supply accounting unit. -/
structure Reserve where
  leg : Option Leg := none
  original : Nat := 0
  remaining : Nat := 0
  deriving DecidableEq, Repr

/-- An entry of the start queue (R89). -/
structure StartEntry where
  group : Fin 4
  purpose : Purpose
  priority : Authority
  current : Nat
  deriving DecidableEq, Repr

/-- The four group machines and the supply accounting unit. `choices` counts the free choices of
`Config.tripFirst` made so far (the model's own field, log entry 11). -/
structure Fans where
  groups : Vector Fan 4
  l1 : LegRecord
  l2 : LegRecord
  reserves : Vector Reserve 32
  queue : List StartEntry
  slot : Option (Fin 4 × Purpose)
  choices : Nat
  deriving DecidableEq, Repr

/-! ### Doors and inputs (chapter 7) -/

/-- Configuration part of a door record (section 7.3). -/
structure DoorConfig where
  zone : Option (Fin 32) := none
  pressureChannel : Option (Fin 8) := none
  assistLimit : Nat := 300
  assistTail : Nat := 3
  jamTime : Nat := 10
  relatchDelay : Nat := 2
  leftOpen : Nat := 120
  deriving DecidableEq, Repr

/-- The release-cause set of a door (section 7.4). -/
structure Causes where
  request : Bool := false
  zone : Bool := false
  suspect : Bool := false
  order : Bool := false
  dflt : Bool := false
  deriving DecidableEq, Repr

/-- A door record (section 7.3). `openedAt` is the tick count at which the door last entered OPEN
(the model's own field, log entry 22). -/
structure Door where
  config : DoorConfig := {}
  state : DoorState := .released
  causes : Causes := { dflt := true }
  relatchWait : Bool := false
  hold : Bool := false
  assist : Bool := false
  beacon : Bool := false
  jam : Timer := none
  relatch : Timer := none
  leftOpen : Timer := none
  assistTail : Timer := none
  faultTimer : Timer := none
  openedAt : Nat := 0
  deriving DecidableEq, Repr

/-- A discrete input: its profile and its status (section 7.1). `last` is the conditioned level of
the sample before, which R118 compares with. -/
structure Input where
  pull : Pull := .up
  inverted : Bool := false
  debounce : Nat := 20
  edge : EdgeSelect := .rising
  action : InputAction := .report
  pin : Bool := false
  level : Option Bool := none
  count : Nat := 0
  last : Option Bool := none
  deriving DecidableEq, Repr

/-! ### Zones (chapters 8 and 9) -/

/-- An aggregation record (section 8.4). -/
structure Record where
  tag : Byte
  side : Side
  localOutcome : Option ZoneOutcome
  forwardOutcome : ZoneOutcome
  applied : Nat
  failed : Nat
  untracked : Bool
  ackWait : Timer
  deriving DecidableEq, Repr

/-- A zone entry (section 8.1) less its reserve fields, with the bind state beside it
(section 9.1). -/
structure Zone where
  state : ZoneState := .free
  boundBefore : Bool := false
  inputSide : Side := .west
  forward : Bool := false
  equipped : Bool := false
  bindTag : Byte := 0
  bindWait : Timer := none
  mode : Mode := .normal
  modeDirection : Direction := .eastward
  modeStage : Nat := 0
  normalDirection : Direction := .eastward
  modeSince : Nat := 0
  record : Option Record := none
  savedInputSide : Option Side := none
  savedForward : Option Bool := none
  lapseNote : Option (Byte × Side) := none
  deriving DecidableEq, Repr

/-! ### Reports (chapter 10) -/

/-- A report as a block hands it to the queue (R166). -/
structure Report where
  kind : ReportKind
  object : Nat
  severity : Severity
  detail : Nat
  deriving DecidableEq, Repr

/-- An entry of the report queue (section 10.1). -/
structure ReportEntry where
  kind : ReportKind
  object : Nat
  severity : Severity
  detail : Nat
  count : Nat
  first : Nat
  latest : Nat
  deriving DecidableEq, Repr

/-- The report queue (section 10.1). -/
structure ReportQueue where
  entries : List ReportEntry := []
  lost : Bool := false
  sequence : Byte := 0
  deriving DecidableEq, Repr

/-! ### The node (chapter 11) -/

/-- The node parameters (section 11.3). -/
structure Params where
  samplePeriod : Nat := 10
  publishInterval : Nat := 10
  silenceLimit : Nat := 20
  staleAfter : Nat := 5
  lapseAfter : Nat := 30
  bindWait : Nat := 5
  permitWest : Bool := true
  permitEast : Bool := true
  deriving DecidableEq, Repr

/-- The timebase: the uptime count (R179), the tick count since power-on (the model's own field),
the sample-period timer (R2) and the free-running decay schedule (R44). -/
structure Timebase where
  uptime : Nat := 0
  clock : Nat := 0
  samplePeriod : Nat := 100
  decay : Nat := 12
  decayLong : Bool := true
  deriving DecidableEq, Repr

/-- The NC48, block by block. -/
structure Node where
  strap : BitVec 7
  runState : RunState
  params : Params
  time : Timebase
  sensors : Sensors
  contribution : Contribution
  line : Line
  setups : Vector GroupSetup 4
  fans : Fans
  inputs : Vector Input 24
  nicheAlert : Bool
  doors : Vector Door 2
  zones : Vector Zone 32
  reports : ReportQueue
  deriving DecidableEq, Repr

/-- The part and the commands that wait for it, first in, first out. -/
structure State where
  node : Node
  pending : List Instr
  deriving DecidableEq, Repr

/-! ### Reset -/

/-- A channel after power-on reset (R7). -/
def Channel.reset : Channel := {}

/-- A group machine after power-on reset: STOPPING with the coast of 180 s (R115). -/
def Fan.reset : Fan := { coast := some (180 * Config.ticksPerSecond) }

/-- The group machines and the supply account after power-on reset (R93, R115). -/
def Fans.reset : Fans :=
  { groups := Vector.replicate 4 Fan.reset, l1 := {}, l2 := {}, reserves := Vector.replicate 32 {},
    queue := [], slot := none, choices := 0 }

/-- Every block at the reset values of its chapter, with the strap value sampled (R178, R179). -/
def Node.reset (straps : BitVec 7) : Node :=
  { strap := straps, runState := .unconfigured, params := {}, time := {},
    sensors := { channels := Vector.replicate 8 Channel.reset, fireSuspect := false,
                 publicationCounter := 0, sampleSequence := 0 },
    contribution := { entries := Vector.replicate 16 {}, demand := 0 },
    line := { west := {}, east := {} },
    setups := Vector.replicate 4 {},
    fans := Fans.reset,
    inputs := Vector.replicate 24 {},
    nicheAlert := false,
    doors := Vector.replicate 2 {},
    zones := Vector.replicate 32 {},
    reports := {} }

/-- The machine right after power-on reset, with node ID 1 on its straps (DESIGN CHOICE, log
entry 3) and no command waiting. -/
def State.reset : State := { node := Node.reset 1, pending := [] }

end Sys2Proof.Machine
end

