-- ==== Sys2Proof/Machine/Flags.lean ====
section
/-!
DEFINITION. The codes of the named values in telegrams and service data (section 3.8), the quality
flags of a sample record and the codes of a door's cause set (section 7.3).
-/

namespace Sys2Proof.Machine

/-- A truth value as a byte: 1 for yes, energised, true or high, 0 otherwise (section 3.8). -/
def flag (b : Bool) : Nat := if b then 1 else 0

/-- A yes/no byte of a write; a byte that is neither code is no value (log entry 7). -/
def unflag : Nat → Option Bool
  | 0 => some false
  | 1 => some true
  | _ => none

/-- Header byte 0. -/
def kindCode : Kind → Nat
  | .idle => 0 | .sample => 1 | .report => 2 | .order => 3 | .orderReply => 4 | .zoneOrder => 5
  | .zoneReply => 6 | .bind => 7 | .unbind => 8 | .bindReply => 9 | .teardown => 10
  | .service => 11 | .serviceReply => 12 | .pathNotice => 13

/-- The kind a header byte names (R41: codes 0 to 13). -/
def kindOf : Nat → Option Kind
  | 0 => some .idle | 1 => some .sample | 2 => some .report | 3 => some .order
  | 4 => some .orderReply | 5 => some .zoneOrder | 6 => some .zoneReply | 7 => some .bind
  | 8 => some .unbind | 9 => some .bindReply | 10 => some .teardown | 11 => some .service
  | 12 => some .serviceReply | 13 => some .pathNotice
  | _ => none

/-- Header byte 1. -/
def classCode : TelegramClass → Nat
  | .alarm => 0 | .control => 1 | .sample => 2 | .service => 3

/-- The class a header byte names. -/
def classOf : Nat → Option TelegramClass
  | 0 => some .alarm | 1 => some .control | 2 => some .sample | 3 => some .service
  | _ => none

/-- Header byte 2. -/
def routeCode : Route → Nat
  | .path => 0 | .toEnd => 1 | .bothEnds => 2 | .zone => 3

/-- The route mode a header byte names. -/
def routeOf : Nat → Option Route
  | 0 => some .path | 1 => some .toEnd | 2 => some .bothEnds | 3 => some .zone
  | _ => none

/-- Object index of a side, and its code in service data. -/
def sideCode : Side → Nat
  | .west => 0 | .east => 1

/-- Object index of a leg, and its code in service data. -/
def legCode : Leg → Nat
  | .l1 => 0 | .l2 => 1

/-- Code of a direction. -/
def directionCode : Direction → Nat
  | .eastward => 0 | .westward => 1

/-- The direction a byte names. -/
def directionOf : Nat → Option Direction
  | 0 => some .eastward | 1 => some .westward
  | _ => none

/-- Code of an authority or of a queue priority. -/
def authorityCode : Authority → Nat
  | .normal => 0 | .fire => 1

/-- Code of a run state (IDLE body, byte 1). -/
def runStateCode : RunState → Nat
  | .unconfigured => 0 | .operational => 1 | .isolated => 2

/-- The run state a byte names. -/
def runStateOf : Nat → Option RunState
  | 0 => some .unconfigured | 1 => some .operational | 2 => some .isolated
  | _ => none

/-- Code of a channel kind (sample record, byte 0). -/
def channelKindCode : ChannelKind → Nat
  | .co => 0 | .no2 => 1 | .opacity => 2 | .velocity => 3 | .temperature => 4 | .dpressure => 5
  | .generic => 6

/-- The channel kind a code names. -/
def channelKindOf : Nat → Option ChannelKind
  | 0 => some .co | 1 => some .no2 | 2 => some .opacity | 3 => some .velocity
  | 4 => some .temperature | 5 => some .dpressure | 6 => some .generic
  | _ => none

/-- Code of a channel state. -/
def channelStateCode : ChannelState → Nat
  | .off => 0 | .acquiring => 1 | .good => 2 | .held => 3 | .fault => 4

/-- Number of a level (section 2.1). -/
def levelCode : Level → Nat
  | .normal => 0 | .raised => 1 | .high => 2 | .critical => 3

/-- The level of a number; the two bits of a sample record name no other. -/
def levelOf : Nat → Level
  | 0 => .normal | 1 => .raised | 2 => .high
  | _ => .critical

/-- Code of a contribution entry's state. -/
def entryStateCode : EntryState → Nat
  | .empty => 0 | .live => 1 | .held => 2 | .lapsed => 3

/-- Service byte of a contribution entry's source (section 4.1). -/
def sourceCode : Source → Nat
  | .here => 0 | .node id => id | .none => 255

/-- The source a service byte names (R64). -/
def sourceOf (b : Nat) : Option Source :=
  if b = 0 then some .here
  else if b ≤ 126 then some (.node b)
  else if b = 255 then some .none
  else none

/-- Code of a side state. -/
def sideStateCode : SideState → Nat
  | .down => 0 | .proving => 1 | .up => 2

/-- Code of a group state (section 6.1). -/
def groupStateCode : GroupState → Nat
  | .off => 0 | .windmillWait => 1 | .queued => 2 | .starting => 3 | .running => 4
  | .stopping => 5 | .tripped => 6 | .locked => 7

/-- Code of a trip cause (section 6.1). -/
def tripCauseCode : TripCause → Nat
  | .noFeedback => 1 | .overload => 2 | .feedbackLost => 3

/-- Code of a start purpose. -/
def purposeCode : Purpose → Nat
  | .start => 0 | .stageUp => 1

/-- Code of a door state (section 7.3). -/
def doorStateCode : DoorState → Nat
  | .secured => 0 | .released => 1 | .opened => 2 | .jammed => 3 | .fault => 4

/-- Code of a zone entry's state. -/
def zoneStateCode : ZoneState → Nat
  | .free => 0 | .binding => 1 | .bound => 2

/-- Code of a zone mode. -/
def modeCode : Mode → Nat
  | .normal => 0 | .alert => 1 | .fire => 2 | .quiet => 3

/-- The zone mode a byte names. -/
def modeOf : Nat → Option Mode
  | 0 => some .normal | 1 => some .alert | 2 => some .fire | 3 => some .quiet
  | _ => none

/-- Code of a zone outcome (section 3.8). -/
def outcomeCode : ZoneOutcome → Nat
  | .ok => 0 | .supplyShort => 1 | .groupUnavailable => 2 | .budgetShort => 3
  | .zoneUnbound => 4 | .wrongSide => 5 | .superseded => 6 | .downstreamTimeout => 7
  | .zoneTornDown => 8

/-- The zone outcome a byte names. -/
def outcomeOf : Nat → Option ZoneOutcome
  | 0 => some .ok | 1 => some .supplyShort | 2 => some .groupUnavailable
  | 3 => some .budgetShort | 4 => some .zoneUnbound | 5 => some .wrongSide
  | 6 => some .superseded | 7 => some .downstreamTimeout | 8 => some .zoneTornDown
  | _ => none

/-- Badness of a zone outcome: the ranking of R150, 0 for OK. -/
def ZoneOutcome.badness : ZoneOutcome → Nat
  | .zoneTornDown => 8 | .downstreamTimeout => 7 | .superseded => 6 | .wrongSide => 5
  | .zoneUnbound => 4 | .groupUnavailable => 3 | .supplyShort => 2 | .budgetShort => 1
  | .ok => 0

/-- The worse of two zone outcomes (R150). -/
def ZoneOutcome.worse (a b : ZoneOutcome) : ZoneOutcome :=
  if a.badness < b.badness then b else a

/-- Code of a pull setting. -/
def pullCode : Pull → Nat
  | .none => 0 | .up => 1 | .down => 2

/-- The pull a byte names. -/
def pullOf : Nat → Option Pull
  | 0 => some .none | 1 => some .up | 2 => some .down
  | _ => none

/-- Code of an edge selection. -/
def edgeCode : EdgeSelect → Nat
  | .rising => 0 | .falling => 1 | .both => 2

/-- The edge selection a byte names. -/
def edgeOf : Nat → Option EdgeSelect
  | 0 => some .rising | 1 => some .falling | 2 => some .both
  | _ => none

/-- Code of an input action. -/
def actionCode : InputAction → Nat
  | .report => 0 | .alert => 1

/-- The input action a byte names. -/
def actionOf : Nat → Option InputAction
  | 0 => some .report | 1 => some .alert
  | _ => none

/-- Code of a report kind (section 10.5). -/
def reportKindCode : ReportKind → Nat
  | .sensorFault => 1 | .sensorRestored => 2 | .levelChange => 3 | .fireSuspect => 4
  | .sideUp => 5 | .sideDown => 6 | .neighbourChanged => 7 | .txDropped => 8
  | .staleSource => 9 | .supplyLost => 10 | .supplyRestored => 11 | .fanRunning => 12
  | .fanStopped => 13 | .startTimeout => 14 | .fanTrip => 15 | .fanLocked => 16
  | .windmillOverride => 17 | .nicheInput => 18 | .doorForced => 19 | .doorOpened => 20
  | .doorClosed => 21 | .doorLeftOpen => 22 | .doorJammed => 23 | .doorFault => 24
  | .zoneLateReply => 25 | .bindTimeout => 26 | .zoneTakeover => 27 | .isolated => 28
  | .rejoined => 29 | .idInvalid => 30

/-- Code of a severity (report record, byte 0, top bit). -/
def severityCode : Severity → Nat
  | .info => 0 | .alarm => 1

/-- The low five bits of byte 1 of a sample record: TWA_PRESENT, FAULT, HELD, COMP_LOST, SAT
(section 3.8). -/
def Quality.bits (q : Quality) (twaPresent : Bool) : Nat :=
  16 * flag twaPresent + 8 * flag q.fault + 4 * flag q.held + 2 * flag q.compLost + flag q.sat

/-- The sum of the codes of a cause set (section 7.3). -/
def Causes.code (c : Causes) : Nat :=
  flag c.request + 2 * flag c.zone + 4 * flag c.suspect + 8 * flag c.order + 16 * flag c.dflt

/-- Whether a cause set is empty. -/
def Causes.isEmpty (c : Causes) : Bool :=
  !(c.request || c.zone || c.suspect || c.order || c.dflt)

end Sys2Proof.Machine
end

