-- ==== Sys2Proof/Machine/Ops.lean ====
section
/-!
DEFINITION. The operations every block shares: replacing one member of a bank, the timers, and the
raising of a report (chapter 10).
-/

namespace Sys2Proof.Machine

/-- The bank `v` with its member `i` changed by `f`. -/
def upd {α : Type} {n : Nat} (v : Vector α n) (i : Fin n) (f : α → α) : Vector α n :=
  v.set i (f v[i])

/-! ### Timers -/

/-- A timer loaded with a number of ticks; one loaded with 0 has expired at once (section 6.3). -/
def Timer.load (ticks : Nat) : Timer :=
  if ticks = 0 then none else some ticks

/-- A timer loaded with whole seconds. -/
def Timer.seconds (s : Nat) : Timer :=
  Timer.load (s * Config.ticksPerSecond)

/-- The remaining time a service read shows, 0 when idle (section 3.8). -/
def Timer.remaining (t : Timer) : Nat :=
  t.getD 0

/-- One tick of the timebase. -/
def Timer.tick (t : Timer) : Timer :=
  t.map (· - 1)

/-- A running timer that has counted to its end. -/
def Timer.due (t : Timer) : Bool :=
  t == some 0

/-! ### Reports -/

/-- A node ID of 1 to 126 is valid (R178). -/
def validStrap (strap : BitVec 7) : Bool :=
  strap != 0 && strap != 127

/-- The entry of the queue that a report folds into (R166). -/
def ReportEntry.matches (e : ReportEntry) (r : Report) : Bool :=
  e.kind == r.kind && e.object == r.object

/-- A report folded into an entry (R166). -/
def ReportEntry.fold (e : ReportEntry) (now : Nat) (r : Report) : ReportEntry :=
  { e with
    count := min 255 (e.count + 1), detail := r.detail, latest := now,
    severity := if r.severity = .alarm then .alarm else e.severity }

/-- A report as a new entry (R166). -/
def Report.entry (r : Report) (now : Nat) : ReportEntry :=
  { kind := r.kind, object := r.object, severity := r.severity, detail := r.detail, count := 1,
    first := now, latest := now }

/-- Whether an entry is INFO. -/
def ReportEntry.isInfo (e : ReportEntry) : Bool :=
  e.severity == .info

/-- Whether an entry is ALARM. -/
def ReportEntry.isAlarm (e : ReportEntry) : Bool :=
  e.severity == .alarm

/-- A report that matches no entry and finds the queue full (R167). -/
def ReportQueue.overflow (q : ReportQueue) (now : Nat) (r : Report) : ReportQueue :=
  if q.entries.any ReportEntry.isInfo then
    { q with entries := q.entries.eraseP ReportEntry.isInfo ++ [r.entry now], lost := true }
  else
    match r.severity with
    | .info => { q with lost := true }
    | .alarm => { q with entries := q.entries.tail ++ [r.entry now], lost := true }

/-- The report queue takes a report at uptime `now` (R166, R167). -/
def ReportQueue.add (q : ReportQueue) (now : Nat) (r : Report) : ReportQueue :=
  if q.entries.any (·.matches r) then
    { q with entries := q.entries.map fun e => if e.matches r then e.fold now r else e }
  else if q.entries.length < Config.reportCapacity then
    { q with entries := q.entries ++ [r.entry now] }
  else
    q.overflow now r

/-- A block hands a report to the queue. At a node with an invalid ID the queue takes ID_INVALID
alone (R166, R178). -/
def Node.raise (r : Report) (n : Node) : Node :=
  if validStrap n.strap || r.kind == .idInvalid then
    { n with reports := n.reports.add n.time.uptime r }
  else n

/-- A block hands several reports to the queue, in order. -/
def Node.raiseAll (rs : List Report) (n : Node) : Node :=
  rs.foldl (fun n r => n.raise r) n

end Sys2Proof.Machine
end

