-- ==== Sys2Proof/Machine/Supply.lean ====
section
/-!
DEFINITION. The supply accounting unit: the leg accounts, draws and their return, the start queue
and the start slot (chapter 5). Everything here reads and changes `Fans` alone; what a group must
know of the rest of the node comes in a `FanEnv`.
-/

namespace Sys2Proof.Machine

/-- What the group machines and the supply unit read of the rest of the node while one event is
handled: whether the groups are held (R99), the configurations, the effective targets (R98), the
door cap (R98), which zone entries are BINDING or BOUND (R80), the contacts, and the airflow check
(R103). -/
structure FanEnv where
  held : Bool
  config : Fin 4 → GroupConfig
  target : Fin 4 → Target
  capped : Fin 4 → Bool
  zoneHeld : Fin 32 → Bool
  runFb : Fin 4 → Bool
  tripFb : Fin 4 → Bool
  opposed : Fin 4 → Direction → Bool
  airMagnitude : Fin 4 → Nat

/-- The groups and the supply in the middle of an event: the reports raised so far, and the groups
whose FIRE entry was answered "cannot be met now" (R90, read by R141). -/
structure FanRun where
  fans : Fans
  raised : List Report
  short : List (Fin 4)

/-- The group indices in ascending order. -/
def groupIndices : List (Fin 4) := [0, 1, 2, 3]

/-! ### Access -/

/-- A leg's record. -/
def Fans.leg (F : Fans) : Leg → LegRecord
  | .l1 => F.l1
  | .l2 => F.l2

/-- The account with one leg record changed. -/
def Fans.modLeg (F : Fans) (l : Leg) (f : LegRecord → LegRecord) : Fans :=
  match l with
  | .l1 => { F with l1 := f F.l1 }
  | .l2 => { F with l2 := f F.l2 }

/-- Free current of a leg: capacity − drawn − reserved (R77). -/
def LegRecord.free (r : LegRecord) : Nat := r.capacity - r.drawn - r.reserved

/-- The account with one group machine changed. -/
def Fans.modGroup (F : Fans) (g : Fin 4) (f : Fan → Fan) : Fans :=
  { F with groups := upd F.groups g f }

/-- The account with one zone's reserve changed. -/
def Fans.modReserve (F : Fans) (z : Fin 32) (f : Reserve → Reserve) : Fans :=
  { F with reserves := upd F.reserves z f }

/-- A group machine. -/
def FanRun.fan (r : FanRun) (g : Fin 4) : Fan := r.fans.groups[g]

/-- One group machine changed. -/
def FanRun.modFan (g : Fin 4) (f : Fan → Fan) (r : FanRun) : FanRun :=
  { r with fans := r.fans.modGroup g f }

/-- A report of the groups or the supply unit. -/
def FanRun.raise (kind : ReportKind) (object : Nat) (sev : Severity) (detail : Nat) (r : FanRun) :
    FanRun :=
  { r with raised := r.raised ++ [{ kind := kind, object := object, severity := sev,
                                    detail := detail }] }

/-- The account changed. -/
def FanRun.modFans (f : Fans → Fans) (r : FanRun) : FanRun := { r with fans := f r.fans }

/-- The stage a target asks of a group: without HIGH present, stage 2 counts as 1 (R98). -/
def GroupConfig.needed (c : GroupConfig) (stage : Nat) : Nat :=
  if stage = 2 ∧ ¬ c.highPresent then 1 else stage

/-- The current of a needed stage (section 5.2). -/
def GroupConfig.current (c : GroupConfig) (stage : Nat) : Nat :=
  match c.needed stage with
  | 0 => 0
  | 1 => c.i1
  | _ => c.i2

/-! ### Draw tests (R79, R80, R82) -/

/-- The leg with the larger free current, L1 on a tie (R79, R85). -/
def Fans.largerFree (F : Fans) : Leg :=
  if F.l1.free < F.l2.free then .l2 else .l1

/-- The available legs whose free current is at least `amount`: the better one, if any (R79, R85). -/
def Fans.coveringLeg (F : Fans) (amount : Nat) : Option Leg :=
  match F.l1.available && amount ≤ F.l1.free, F.l2.available && amount ≤ F.l2.free with
  | true, true => some F.largerFree
  | true, false => some .l1
  | false, true => some .l2
  | false, false => none

/-- The test of a NORMAL draw; a draw of 0 can always be met, on L1 when neither leg is available
(R79). -/
def Fans.normalTest (F : Fans) (amount : Nat) : Option Leg :=
  match F.coveringLeg amount with
  | some l => some l
  | none => if amount = 0 then some .l1 else none

/-- The leg and the remaining amount of the reserve that a zone's BINDING or BOUND entry holds
(R80). -/
def Fans.heldReserve (F : Fans) (env : FanEnv) (z : Option (Fin 32)) : Option (Leg × Nat) :=
  match z with
  | none => none
  | some z =>
    if env.zoneHeld z then
      match F.reserves[z].leg with
      | some l => some (l, F.reserves[z].remaining)
      | none => none
    else none

/-- The test of a FIRE draw for a group of zone `z` (R80). -/
def Fans.fireTest (F : Fans) (env : FanEnv) (z : Option (Fin 32)) (amount : Nat) : Option Leg :=
  match F.heldReserve env z with
  | none => F.normalTest amount
  | some (l, remaining) =>
    if (F.leg l).available && amount ≤ (F.leg l).free + remaining then some l
    else if (F.leg l.other).available && amount ≤ (F.leg l.other).free then some l.other
    else none

/-- The test of a stage-up on the group's present leg (R82). A group whose draw of 0 was charged to an
unavailable L1 (R79) runs on a leg that R82 takes to be available: its stage-up is refused while the leg
is not available, even where I2 − I1 is 0 (DESIGN CHOICE, log entry 41). -/
def Fans.stageUpTest (F : Fans) (env : FanEnv) (p : Authority) (z : Option (Fin 32))
    (present : Option Leg) (amount : Nat) : Option Leg :=
  match present with
  | none => none
  | some l =>
    let extra := match p, F.heldReserve env z with
      | .fire, some (rl, remaining) => if rl = l then remaining else 0
      | _, _ => 0
    if (F.leg l).available && amount ≤ (F.leg l).free + extra then some l else none

/-- The draw test of a start-queue entry against the account as it stands (R90). -/
def Fans.drawTest (F : Fans) (env : FanEnv) (e : StartEntry) : Option Leg :=
  let z := (env.config e.group).zone
  match e.purpose, e.priority with
  | .start, .normal => F.normalTest e.current
  | .start, .fire => F.fireTest env z e.current
  | .stageUp, p => F.stageUpTest env p z F.groups[e.group].leg e.current

/-! ### Charging and returning (R79, R81, R82, R83, R84) -/

/-- The zone whose reserve a granted entry converts on the chosen leg, if any (R81, R82). -/
def Fans.convertZone (F : Fans) (env : FanEnv) (e : StartEntry) (l : Leg) : Option (Fin 32) :=
  match e.priority, F.heldReserve env (env.config e.group).zone with
  | .fire, some (rl, _) => if rl = l then (env.config e.group).zone else none
  | _, _ => none

/-- `amount` of zone `z`'s remaining reserve on leg `l` becomes draw (R81). -/
def Fans.convert (F : Fans) (z : Fin 32) (l : Leg) (amount : Nat) : Fans :=
  (F.modReserve z fun r => { r with remaining := r.remaining - amount }).modLeg l
    fun r => { r with reserved := r.reserved - amount }

/-- The charge of a granted entry on leg `l`: a START opens the group's supply record (R79, R81), a
STAGE_UP adds to it (R82). -/
def Fans.charge (F : Fans) (env : FanEnv) (e : StartEntry) (l : Leg) : Fans :=
  let zone := F.convertZone env e l
  let converted := match zone with
    | some z => min e.current F.reserves[z].remaining
    | none => 0
  let F := match zone with
    | some z => F.convert z l converted
    | none => F
  let F := F.modLeg l fun r => { r with drawn := r.drawn + e.current }
  F.modGroup e.group fun f =>
    match e.purpose with
    | .start => { f with leg := some l, draw := e.current, reserveZone := zone,
                         reserveTaken := converted }
    | .stageUp => { f with draw := f.draw + e.current,
                           reserveZone := f.reserveZone.orElse fun _ => zone,
                           reserveTaken := f.reserveTaken + converted }

/-- `amount` is offered back to the reserve of zone `z`, whose group drew from leg `l`: what the
reserve can take refills it, the rest becomes free current (R84). -/
def Fans.refill (F : Fans) (env : FanEnv) (z : Option (Fin 32)) (l : Leg) (amount : Nat) : Fans :=
  match z with
  | none => F
  | some z =>
    let r := F.reserves[z]
    if env.zoneHeld z ∧ r.leg = some l then
      let back := min amount (r.original - r.remaining)
      (F.modReserve z fun r => { r with remaining := r.remaining + back }).modLeg l
        fun r => { r with reserved := r.reserved + back }
    else F

/-- A group returns its whole draw (R84). -/
def Fans.returnDraw (F : Fans) (env : FanEnv) (g : Fin 4) : Fans :=
  let f := F.groups[g]
  match f.leg with
  | none => F
  | some l =>
    let F := F.modLeg l fun r => { r with drawn := r.drawn - f.draw }
    let F := F.refill env f.reserveZone l f.reserveTaken
    F.modGroup g fun f => { f with leg := none, draw := 0, reserveZone := none, reserveTaken := 0 }

/-- The return of I2 − I1 at a stage-down (R83). -/
def Fans.returnStage (F : Fans) (env : FanEnv) (g : Fin 4) : Fans :=
  let f := F.groups[g]
  let c := env.config g
  match f.leg with
  | none => F
  | some l =>
    let F := F.modLeg l fun r => { r with drawn := r.drawn - (c.i2 - c.i1) }
    let F := F.refill env f.reserveZone l (f.reserveTaken - c.i1)
    F.modGroup g fun f => { f with draw := c.i1, reserveTaken := min f.reserveTaken c.i1 }

/-! ### Zone reserves (R85) -/

/-- The zone unit asks for a reserve; `none` is the answer SUPPLY_SHORT. -/
def Fans.reserve (F : Fans) (z : Fin 32) (amount : Nat) : Option Fans :=
  if amount = 0 then some (F.modReserve z fun _ => { leg := none, original := 0, remaining := 0 })
  else
    match F.coveringLeg amount with
    | none => none
    | some l =>
      some ((F.modReserve z fun _ => { leg := some l, original := amount,
                                       remaining := amount }).modLeg l
        fun r => { r with reserved := r.reserved + amount })

/-- The zone unit releases a zone's reserve. -/
def Fans.release (F : Fans) (z : Fin 32) : Fans :=
  let r := F.reserves[z]
  let F := match r.leg with
    | some l => F.modLeg l fun x => { x with reserved := x.reserved - r.remaining }
    | none => F
  F.modReserve z fun _ => { leg := none, original := 0, remaining := 0 }

/-! ### The start queue and the start slot (R89, R92) -/

/-- An entry joins at the tail of the entries of its priority (R89). -/
def joinQueue (q : List StartEntry) (e : StartEntry) : List StartEntry :=
  match e.priority with
  | .normal => q ++ [e]
  | .fire => q.filter (·.priority == .fire) ++ [e] ++ q.filter (·.priority == .normal)

/-- The queue without a group's entry (R89). -/
def withoutGroup (q : List StartEntry) (g : Fin 4) : List StartEntry :=
  q.filter fun e => e.group != g

/-- A group's entry. -/
def Fans.entryOf (F : Fans) (g : Fin 4) : Option StartEntry :=
  F.queue.find? fun e => e.group == g

/-- A group's entry leaves the queue. -/
def Fans.removeEntry (F : Fans) (g : Fin 4) : Fans :=
  { F with queue := withoutGroup F.queue g }

/-- A group that holds the start slot releases it (R92). -/
def Fans.releaseSlot (F : Fans) (g : Fin 4) : Fans :=
  match F.slot with
  | some (h, _) => if h = g then { F with slot := none } else F
  | none => F

/-- The answer the supply unit gives a group when its entry joins or changes: a FIRE entry whose
draw could not be met now is noted for the zone unit (R90, R141). -/
def FanRun.answer (env : FanEnv) (e : StartEntry) (r : FanRun) : FanRun :=
  if e.priority = .fire ∧ r.fans.drawTest env e = none then { r with short := e.group :: r.short }
  else r

/-- An entry joins the queue, and its group is told whether its draw could be met (R89, R90). -/
def FanRun.joinEntry (env : FanEnv) (e : StartEntry) (r : FanRun) : FanRun :=
  (r.modFans fun F => { F with queue := joinQueue F.queue e }).answer env e

/-- The first entry of the queue whose draw can be met now, with the leg that covers it (R90). -/
def Fans.firstMet (F : Fans) (env : FanEnv) : List StartEntry → Option (StartEntry × Leg)
  | [] => none
  | e :: es =>
    match F.drawTest env e with
    | some l => some (e, l)
    | none => F.firstMet env es

end Sys2Proof.Machine
end

