-- ==== Sys2Proof/Machine/Fans.lean ====
section
/-!
DEFINITION. The fan group controllers (chapter 6) and the arbiter that starts them (R90). Each
operation takes the surroundings `FanEnv` and a run in progress. The examination of the start queue
that a change triggers (R91) is passed as `ex`, because a grant can itself end in one (a group whose
run feedback is already true frees the slot in the step that took it).
-/

namespace Sys2Proof.Machine

/-! ### Leaving STARTING and RUNNING -/

/-- A group's three outputs de-energised (R100); its draw returned (R84), its queue entry removed,
the slot released if it holds it (R92). The start, stage-up and run_min timers stop. -/
def FanRun.shutDown (env : FanEnv) (g : Fin 4) (r : FanRun) : FanRun :=
  (r.modFans fun F => ((F.returnDraw env g).removeEntry g).releaseSlot g).modFan g fun f =>
    { f with fwd := false, rev := false, high := false, stage := 0, start := none, stageUp := none,
             runMin := none }

/-- Causes in FAN_STOPPED's detail (R111). -/
inductive StopCause where
  | target | reversal | legLoss
  deriving DecidableEq, Repr

/-- Code of a stop's cause (R111). -/
def stopCauseCode : StopCause → Nat
  | .target => 1 | .reversal => 2 | .legLoss => 3

/-- Entry to STOPPING from STARTING or RUNNING (R111), with the pending target it keeps. -/
def FanRun.enterStopping (env : FanEnv) (g : Fin 4) (c : StopCause) (keep : Option Target)
    (r : FanRun) : FanRun :=
  ((r.shutDown env g).modFan g fun f =>
    { f with state := .stopping, pending := keep,
             coast := Timer.seconds (env.config g).coastTime }).raise
      .fanStopped g .info (stopCauseCode c)

/-- Entry to TRIPPED (R107, R110, R112). -/
def FanRun.trip (env : FanEnv) (g : Fin 4) (c : TripCause) (r : FanRun) : FanRun :=
  let driven := (r.fan g).stage
  let r := (r.shutDown env g).modFan g fun f =>
    { f with state := .tripped, tripCause := some c, pending := none,
             coast := Timer.seconds (env.config g).coastTime }
  match c with
  | .noFeedback => r.raise .startTimeout g .alarm driven
  | _ => r.raise .fanTrip g .alarm (tripCauseCode c)

/-- Entry to LOCKED from whatever state the group is in (R114). -/
def FanRun.lock (env : FanEnv) (g : Fin 4) (r : FanRun) : FanRun :=
  let left := (r.fan g).state
  ((r.shutDown env g).modFan g fun f =>
    { f with state := .locked, pending := none, tripCause := none, coast := none, rest := none,
             windmill := none }).raise .fanLocked g .info (groupStateCode left)

/-- HIGH de-energised and I2 − I1 returned (R83). In RUNNING the stage-up timer stops and the slot
it held is released (R92, R109). -/
def FanRun.stageDown (env : FanEnv) (g : Fin 4) (r : FanRun) : FanRun :=
  let running := (r.fan g).state == .running
  (r.modFans fun F =>
    let F := F.returnStage env g
    if running then F.releaseSlot g else F).modFan g fun f =>
      { f with high := false, stage := 1, stageUp := none }

/-! ### From OFF to the start queue (R102, R103, R105) -/

/-- The START entry of a group for a target (R105). -/
def startEntry (env : FanEnv) (g : Fin 4) (t : Target) : StartEntry :=
  { group := g, purpose := .start, priority := t.authority,
    current := (env.config g).current t.stage }

/-- The STAGE_UP entry of a group (R89, R109). -/
def stageUpEntry (env : FanEnv) (g : Fin 4) (t : Target) : StartEntry :=
  { group := g, purpose := .stageUp, priority := t.authority,
    current := (env.config g).i2 - (env.config g).i1 }

/-- Entry to QUEUED for target `t` (R105). -/
def FanRun.enterQueued (ex : FanRun → FanRun) (env : FanEnv) (g : Fin 4) (t : Target)
    (r : FanRun) : FanRun :=
  ex ((r.modFan g fun f => { f with state := .queued, windmill := none }).joinEntry env
    (startEntry env g t))

/-- QUEUED entered against the flow, with WINDMILL_OVERRIDE (R103, R104). -/
def FanRun.override (ex : FanRun → FanRun) (env : FanEnv) (g : Fin 4) (t : Target)
    (r : FanRun) : FanRun :=
  (r.raise .windmillOverride g .info (env.airMagnitude g)).enterQueued ex env g t

/-- The airflow check of a group that is to start (R103). -/
def FanRun.airflowCheck (ex : FanRun → FanRun) (env : FanEnv) (g : Fin 4) (t : Target)
    (r : FanRun) : FanRun :=
  if env.opposed g t.direction then
    if (env.config g).windmillWait = 0 then r.override ex env g t
    else r.modFan g fun f =>
      { f with state := .windmillWait, windmill := Timer.seconds (env.config g).windmillWait }
  else r.enterQueued ex env g t

/-- The needed stage of a target for a group (R98). -/
def FanEnv.needed (env : FanEnv) (g : Fin 4) (t : Target) : Nat :=
  (env.config g).needed t.stage

/-- A change of effective target in OFF (R102). -/
def FanRun.actOff (ex : FanRun → FanRun) (env : FanEnv) (g : Fin 4) (t : Target)
    (r : FanRun) : FanRun :=
  if env.needed g t = 0 then r.modFan g fun f => { f with pending := none }
  else if (r.fan g).rest.isSome ∧ t.authority = .normal then
    r.modFan g fun f => { f with pending := some t }
  else (r.modFan g fun f => { f with pending := none }).airflowCheck ex env g t

/-- A group in WINDMILL_WAIT or QUEUED that returns to OFF, keeping its rest timer (R102). -/
def FanRun.backToOff (g : Fin 4) (keep : Option Target) (r : FanRun) : FanRun :=
  (r.modFans fun F => F.removeEntry g).modFan g fun f =>
    { f with state := .off, pending := keep, windmill := none }

/-- A change of effective target in WINDMILL_WAIT (R104); `old` is the target presented before. -/
def FanRun.actWindmill (ex : FanRun → FanRun) (env : FanEnv) (g : Fin 4) (old t : Target)
    (r : FanRun) : FanRun :=
  if env.needed g t = 0 then r.backToOff g none
  else if t.authority = .normal ∧ (r.fan g).rest.isSome then r.backToOff g (some t)
  else if t.direction ≠ old.direction then
    if env.opposed g t.direction then r.modFan g fun f =>
      { f with windmill := Timer.seconds (env.config g).windmillWait }
    else r.enterQueued ex env g t
  else r

/-- A change of effective target in QUEUED (R105); the priority of the group's entry is the authority it
joined under (R89). A change of the needed stage is taken as a change of the entry's current, which is
answered (R90) and examined (R91), also where I1 = I2 and the current stays equal (DESIGN CHOICE, log
entry 51). -/
def FanRun.actQueued (ex : FanRun → FanRun) (env : FanEnv) (g : Fin 4) (old t : Target)
    (r : FanRun) : FanRun :=
  if env.needed g t = 0 then r.backToOff g none
  else if t.authority = .normal ∧ (r.fan g).rest.isSome then r.backToOff g (some t)
  else if t.direction ≠ old.direction then
    (r.modFans fun F => F.removeEntry g).airflowCheck ex env g t
  else
    let e := startEntry env g t
    let moved := (r.fans.entryOf g).any fun x => x.priority != t.authority
    if moved then
      ex (((r.modFans fun F => F.removeEntry g)).joinEntry env e)
    else if env.needed g t ≠ env.needed g old then
      ex ((r.modFans fun F =>
        { F with queue := F.queue.map fun x => if x.group = g then e else x }).answer env e)
    else r

/-! ### STARTING and RUNNING (R106, R108, R109) -/

/-- A change of effective target in STARTING (R106). Where stage 2 is given up for stage 1 in the group's
own direction, the start that goes on is what T asks for, and a target that was pending before is cleared,
which R106 does not say (DESIGN CHOICE, log entry 46). -/
def FanRun.actStarting (ex : FanRun → FanRun) (env : FanEnv) (g : Fin 4) (t : Target)
    (r : FanRun) : FanRun :=
  let f := r.fan g
  let n := env.needed g t
  if f.stage = 2 ∧ n = 1 ∧ t.direction = f.direction then
    ex ((r.stageDown env g).modFan g fun f => { f with pending := none })
  else if f.stage = 2 ∧ n ≤ 1 then
    ex ((r.stageDown env g).modFan g fun f => { f with pending := some t })
  else r.modFan g fun f => { f with pending := some t }

/-- A change of effective target in RUNNING: a stop or a reversal (R108). -/
def FanRun.actStop (ex : FanRun → FanRun) (env : FanEnv) (g : Fin 4) (t : Target)
    (r : FanRun) : FanRun :=
  let r := r.modFans fun F => F.removeEntry g
  if (r.fan g).runMin.isSome ∧ t.authority = .normal then
    r.modFan g fun f => { f with pending := some t }
  else if env.needed g t = 0 then ex (r.enterStopping env g .target none)
  else ex (r.enterStopping env g .reversal (some t))

/-- A change of effective target in RUNNING that asks the group to run on (R109). -/
def FanRun.actRunOn (ex : FanRun → FanRun) (env : FanEnv) (g : Fin 4) (t : Target)
    (r : FanRun) : FanRun :=
  let r := r.modFan g fun f => { f with pending := none }
  let stage := (r.fan g).stage
  if env.needed g t = 2 ∧ stage = 1 then
    match r.fans.entryOf g with
    | none => ex (r.joinEntry env (stageUpEntry env g t))
    | some e =>
      if e.priority = t.authority then r
      else ex ((r.modFans fun F => F.removeEntry g).joinEntry env (stageUpEntry env g t))
  else if env.needed g t = 1 ∧ stage = 2 then ex (r.stageDown env g)
  else if env.needed g t = 1 then r.modFans fun F => F.removeEntry g
  else r

/-- A change of effective target in RUNNING (R108, R109). -/
def FanRun.actRunning (ex : FanRun → FanRun) (env : FanEnv) (g : Fin 4) (t : Target)
    (r : FanRun) : FanRun :=
  if env.needed g t = 0 ∨ t.direction ≠ (r.fan g).direction then r.actStop ex env g t
  else r.actRunOn ex env g t

/-- Entry to RUNNING (R107). A held group keeps its pending target without acting on it (R99). -/
def FanRun.enterRunning (ex : FanRun → FanRun) (env : FanEnv) (g : Fin 4) (r : FanRun) : FanRun :=
  let f := r.fan g
  let r := (r.modFans fun F => F.releaseSlot g).modFan g fun f =>
    { f with state := .running, start := none, runMin := Timer.seconds (env.config g).runMin }
  let r := ex (r.raise .fanRunning g .info (256 * f.stage + directionCode f.direction))
  if env.held then r
  else
    match (r.fan g).pending with
    | none => r
    | some t => (r.modFan g fun f => { f with pending := none }).actRunning ex env g t

/-! ### The arbiter (R90, R106) -/

/-- Entry to STARTING at a grant: outputs for the stage and direction of the target the group is
acting on, the start timer, and the contacts that are already true (R106, R107, R112). Where both are, the
free value Config.tripFirst orders them; with the feedback first the queue is examined when the slot frees
at RUNNING and again after the trip (R91, log entry 11). -/
def FanRun.enterStarting (ex : FanRun → FanRun) (env : FanEnv) (g : Fin 4) (r : FanRun) : FanRun :=
  let r := r.modFan g fun f =>
    let t := f.presented
    let stage := env.needed g t
    { f with state := .starting, stage := stage, direction := t.direction,
             fwd := t.direction == .eastward, rev := t.direction == .westward, high := stage == 2,
             rest := none, start := Timer.seconds (env.config g).startTime }
  match env.tripFb g, env.runFb g with
  | false, false => r
  | false, true => r.enterRunning ex env g
  | true, false => ex (r.trip env g .overload)
  | true, true =>
    let first := Config.tripFirst r.fans.choices
    let r := r.modFans fun F => { F with choices := F.choices + 1 }
    if first then ex (r.trip env g .overload)
    else
      let r := r.enterRunning ex env g
      if (r.fan g).state = .running then ex (r.trip env g .overload) else r

/-- A granted entry leaves the queue, takes the slot and is charged; START takes its group to
STARTING, STAGE_UP energises HIGH and starts the stage-up timer (R90). -/
def FanRun.grant (ex : FanRun → FanRun) (env : FanEnv) (e : StartEntry) (l : Leg)
    (r : FanRun) : FanRun :=
  let r := r.modFans fun F =>
    { (F.removeEntry e.group).charge env e l with slot := some (e.group, e.purpose) }
  match e.purpose with
  | .start => r.enterStarting ex env e.group
  | .stageUp => r.modFan e.group fun f =>
      { f with stage := 2, high := true, stageUp := Timer.seconds (env.config e.group).startTime }

/-- An examination of the start queue (R90). The fuel bounds the chain of grants within one step:
each takes an entry from a queue of at most four, and a STAGE_UP grant ends the chain. -/
def FanRun.examineWith (env : FanEnv) : Nat → FanRun → FanRun
  | 0, r => r
  | n + 1, r =>
    if env.held ∨ r.fans.slot.isSome then r
    else
      match r.fans.firstMet env r.fans.queue with
      | none => r
      | some (e, l) => r.grant (FanRun.examineWith env n) env e l

/-- An examination of the start queue (R90, R91). -/
def FanRun.examine (env : FanEnv) (r : FanRun) : FanRun := r.examineWith env 8

/-! ### Presenting a change of effective target (R98, R99) -/

/-- R98's last sentence: a near_door group under the door cap is never left at stage 2
(log entry 16). -/
def FanRun.enforceCap (ex : FanRun → FanRun) (env : FanEnv) (g : Fin 4) (r : FanRun) : FanRun :=
  let f := r.fan g
  if env.capped g ∧ f.stage = 2 ∧ (f.state = .starting ∨ f.state = .running) then
    ex (r.stageDown env g)
  else r

/-- The effective target of a group acts on the group in its present state (R98); `old` is the
target presented before. -/
def FanRun.act (ex : FanRun → FanRun) (env : FanEnv) (g : Fin 4) (old t : Target)
    (r : FanRun) : FanRun :=
  match (r.fan g).state with
  | .off => r.actOff ex env g t
  | .windmillWait => r.actWindmill ex env g old t
  | .queued => r.actQueued ex env g old t
  | .starting => r.actStarting ex env g t
  | .running => r.actRunning ex env g t
  | .stopping => r.modFan g fun f => { f with pending := some t }
  | .tripped => r
  | .locked => r

/-- A group's effective target is compared with the one presented before, and a change is presented
(R98). -/
def FanRun.presentOne (env : FanEnv) (r : FanRun) (g : Fin 4) : FanRun :=
  let old := (r.fan g).presented
  let t := env.target g
  let r := if old = t then r
    else (r.modFan g fun f => { f with presented := t }).act (FanRun.examine env) env g old t
  r.enforceCap (FanRun.examine env) env g

/-- The changes of one event are presented in ascending group order; to held groups nothing is
presented (R98, R99). -/
def FanRun.present (env : FanEnv) (r : FanRun) : FanRun :=
  if env.held then r else groupIndices.foldl (fun r g => r.presentOne env g) r

/-- The release of a group in WINDMILL_WAIT: it repeats the airflow check, keeping its timer, and
an expiry that fell while it was held takes it to QUEUED (R99, log entry 15). -/
def FanRun.releaseWaiting (env : FanEnv) (g : Fin 4) (t : Target) (r : FanRun) : FanRun :=
  if env.needed g t = 0 then r.backToOff g none
  else if t.authority = .normal ∧ (r.fan g).rest.isSome then r.backToOff g (some t)
  else if (r.fan g).windmill.isNone then r.override id env g t
  else if env.opposed g t.direction then r
  else r.enterQueued id env g t

/-- The release of one group: it clears its pending target, forms its effective target afresh and
presents it as a change (R99). -/
def FanRun.releaseOne (env : FanEnv) (r : FanRun) (g : Fin 4) : FanRun :=
  let old := (r.fan g).presented
  let t := env.target g
  let r := r.modFan g fun f => { f with presented := t, pending := none }
  let r :=
    if (r.fan g).state = .windmillWait then r.releaseWaiting env g t
    else r.act id env g old t
  r.enforceCap id env g

/-- The groups are released in ascending order; no entry that joins or changes during the release
triggers an examination, and the queue is examined when all four have been released (R99). -/
def FanRun.release (env : FanEnv) (r : FanRun) : FanRun :=
  (groupIndices.foldl (fun r g => r.releaseOne env g) r).examine env

/-- A group in WINDMILL_WAIT repeats the airflow check after a turn or a configuration write of its
airflow channel (R104). -/
def FanRun.recheck (env : FanEnv) (c : Fin 8) (r : FanRun) (g : Fin 4) : FanRun :=
  if (r.fan g).state = .windmillWait ∧ (env.config g).airflowChannel = some c ∧ ¬ env.held ∧
      ¬ env.opposed g (r.fan g).presented.direction then
    r.enterQueued (FanRun.examine env) env g (r.fan g).presented
  else r

/-- The re-check of every group after a turn or a write of channel `c` (R104). Groups that wait on one channel
are re-checked in ascending order, each with the examination it triggers before the next, an order that
R104 does not state (DESIGN CHOICE, log entry 49). -/
def FanRun.recheckAll (env : FanEnv) (c : Fin 8) (r : FanRun) : FanRun :=
  groupIndices.foldl (fun r g => r.recheck env c g) r

/-! ### Contacts and leg loss (R107, R110, R112, R114, R87) -/

/-- RUN_FB of a group has changed to `v` (R107, R110). -/
def FanRun.runFeedback (env : FanEnv) (g : Fin 4) (v : Bool) (r : FanRun) : FanRun :=
  match (r.fan g).state, v with
  | .starting, true => r.enterRunning (FanRun.examine env) env g
  | .running, false => (r.trip env g .feedbackLost).examine env
  | _, _ => r

/-- TRIP_FB of a group has changed to `v` (R112). -/
def FanRun.overload (env : FanEnv) (g : Fin 4) (v : Bool) (r : FanRun) : FanRun :=
  match (r.fan g).state, v with
  | .starting, true => (r.trip env g .overload).examine env
  | .running, true => (r.trip env g .overload).examine env
  | _, _ => r

/-- LOCAL of a group has changed to, or is first read as, `v` (R114). -/
def FanRun.localSwitch (env : FanEnv) (g : Fin 4) (v : Bool) (r : FanRun) : FanRun :=
  if v then
    if (r.fan g).state = .locked then r else (r.lock env g).examine env
  else if (r.fan g).state = .locked then
    r.modFan g fun f =>
      { f with state := .stopping, coast := Timer.seconds (env.config g).coastTime }
  else r

/-- A group that draws from a lost leg is stopped; its effective target becomes its pending target
(R87, R111). -/
def FanRun.stopOnLeg (env : FanEnv) (l : Leg) (r : FanRun) (g : Fin 4) : FanRun :=
  let f := r.fan g
  if f.leg = some l ∧ (f.state = .starting ∨ f.state = .running) then
    r.enterStopping env g .legLoss (some (env.target g))
  else r

/-- The number of groups that draw from a leg. -/
def Fans.countOn (F : Fans) (l : Leg) : Nat :=
  (groupIndices.filter fun g => F.groups[g].leg = some l ∧
    (F.groups[g].state = .starting ∨ F.groups[g].state = .running)).length

/-- LEG_OK of a leg has gone false (R87). -/
def FanRun.legLost (env : FanEnv) (l : Leg) (r : FanRun) : FanRun :=
  let count := r.fans.countOn l
  let r := r.modFans fun F => F.modLeg l fun x => { x with available := false }
  let r := groupIndices.foldl (fun r g => r.stopOnLeg env l g) r
  (r.raise .supplyLost (legCode l) .alarm count).examine env

/-- LEG_OK of a leg that was not available has gone true (R88). -/
def FanRun.legRestored (env : FanEnv) (l : Leg) (r : FanRun) : FanRun :=
  let r := r.modFans fun F => F.modLeg l fun x => { x with available := true }
  (r.raise .supplyRestored (legCode l) .info (r.fans.leg l).free).examine env

/-- LEG_OK of a leg is first read (R86). -/
def FanRun.legFirst (env : FanEnv) (l : Leg) (v : Bool) (r : FanRun) : FanRun :=
  (r.modFans fun F => F.modLeg l fun x => { x with available := v }).examine env

/-! ### Timers and TRIP_RESET (section 6.3, R113) -/

/-- The target a group acts on when it enters OFF: its pending target, or its effective target if it
holds none (R102). -/
def FanRun.heldTarget (env : FanEnv) (g : Fin 4) (r : FanRun) : Target :=
  (r.fan g).pending.getD (env.target g)

/-- A group enters OFF with its rest timer started (R111, R113), and acts unless it is held. -/
def FanRun.enterOff (env : FanEnv) (g : Fin 4) (t : Target) (r : FanRun) : FanRun :=
  let r := r.modFan g fun f => { f with state := .off, rest := Timer.seconds (env.config g).restMin }
  if env.held then r else r.actOff (FanRun.examine env) env g t

/-- Expiry of a running start timer (R107). -/
def FanRun.startExpired (env : FanEnv) (g : Fin 4) (r : FanRun) : FanRun :=
  match (r.fan g).state with
  | .starting => (r.trip env g .noFeedback).examine env
  | _ => r.modFan g fun f => { f with start := none }

/-- Expiry of a running stage-up timer (R109). -/
def FanRun.stageUpExpired (env : FanEnv) (g : Fin 4) (r : FanRun) : FanRun :=
  ((r.modFan g fun f => { f with stageUp := none }).modFans fun F => F.releaseSlot g).examine env

/-- Expiry of a running coast timer (R111, R112, R99). -/
def FanRun.coastExpired (env : FanEnv) (g : Fin 4) (r : FanRun) : FanRun :=
  let t := r.heldTarget env g
  let stopping := (r.fan g).state = .stopping
  let r := r.modFan g fun f => { f with coast := none }
  if stopping then r.enterOff env g t else r

/-- Expiry of a running rest timer (R102, R99). -/
def FanRun.restExpired (env : FanEnv) (g : Fin 4) (r : FanRun) : FanRun :=
  let r := r.modFan g fun f => { f with rest := none }
  match (r.fan g).state, (r.fan g).pending with
  | .off, some t => if env.held then r else r.actOff (FanRun.examine env) env g t
  | _, _ => r

/-- Expiry of a running run_min timer (R108, R99). -/
def FanRun.runMinExpired (env : FanEnv) (g : Fin 4) (r : FanRun) : FanRun :=
  let r := r.modFan g fun f => { f with runMin := none }
  match (r.fan g).state, (r.fan g).pending with
  | .running, some t =>
    if env.held then r
    else (r.modFan g fun f => { f with pending := none }).actRunning (FanRun.examine env) env g t
  | _, _ => r

/-- Expiry of a running windmill timer (R104, R99). -/
def FanRun.windmillExpired (env : FanEnv) (g : Fin 4) (r : FanRun) : FanRun :=
  let r := r.modFan g fun f => { f with windmill := none }
  if (r.fan g).state = .windmillWait ∧ ¬ env.held then
    r.override (FanRun.examine env) env g (r.fan g).presented
  else r

/-- TRIP_RESET of a TRIPPED group (R113). -/
def FanRun.tripReset (env : FanEnv) (g : Fin 4) (r : FanRun) : FanRun :=
  let r := r.modFan g fun f => { f with tripCause := none }
  if (r.fan g).coast.isSome then r.modFan g fun f => { f with state := .stopping }
  else r.enterOff env g (env.target g)

end Sys2Proof.Machine
end

