-- ==== Sys2Proof/Machine/Targets.lean ====
section
/-!
DEFINITION. A group's target sources, its effective target and the door cap (sections 4.4 and 6.2),
the surroundings the group machines read, and an event's effect on the groups of the node.
-/

namespace Sys2Proof.Machine

/-! ### Channels as other blocks read them -/

/-- A channel of the node. -/
def Node.channel (n : Node) (c : Fin 8) : Channel := n.sensors.channels[c]

/-- A channel is usable for a reader that needs kind `k`: of that kind, and GOOD or HELD (R17, R103,
R132). -/
def Channel.usable (c : Channel) (k : ChannelKind) : Bool :=
  c.config.kind == k && (c.state == .good || c.state == .held)

/-- The magnitude of a value, with 32768 taken as 32767 (R29, R104, R132). -/
def magnitude (v : Int) : Nat := min 32767 v.natAbs

/-! ### Zone entries as groups and doors read them (section 8.2) -/

/-- An entry whose mode is read: BOUND, or BINDING after having been BOUND before. -/
def Zone.active (z : Zone) : Bool :=
  z.state == .bound || (z.state == .binding && z.boundBefore)

/-- The entry of an optional zone number, if it is read. -/
def Node.activeZone (n : Node) (z : Option (Fin 32)) : Option Zone :=
  match z with
  | none => none
  | some z => if n.zones[z].active then some n.zones[z] else none

/-- Whether an optional zone number names a zone in FIRE mode. -/
def Node.zoneInFire (n : Node) (z : Option (Fin 32)) : Bool :=
  match n.activeZone z with
  | some e => e.mode == .fire
  | none => false

/-! ### Targets (R76, R96, R97, R98) -/

/-- The zone target of a group (R96). -/
def Node.zoneTarget (n : Node) (g : Fin 4) : Option Target :=
  let c := n.setups[g].config
  match n.activeZone c.zone with
  | none => none
  | some e =>
    match e.mode with
    | .fire => if c.fireExempt then none else some ⟨e.modeStage, e.modeDirection, .fire⟩
    | .quiet => some ⟨0, e.modeDirection, .normal⟩
    | .alert => none
    | .normal => none

/-- The demand target of a group (R76). -/
def Node.demandTarget (n : Node) (g : Fin 4) : Target :=
  let s := n.setups[g]
  { stage := s.demandStage, authority := .normal,
    direction := match n.activeZone s.config.zone with
      | some e => e.normalDirection
      | none => s.config.defaultDirection }

/-- The effective target before the door cap (R98). -/
def Node.rawTarget (n : Node) (g : Fin 4) : Target :=
  match n.zoneTarget g with
  | some t => t
  | none =>
    match n.setups[g].orderTarget with
    | some (stage, direction) => ⟨stage, direction, .normal⟩
    | none => n.demandTarget g

/-- A door that is OPEN while its zone is in FIRE mode (R98). -/
def Node.doorCaps (n : Node) (d : Fin 2) : Bool :=
  n.doors[d].state == .opened && n.zoneInFire n.doors[d].config.zone

/-- Whether the door cap applies to a group (R98). -/
def Node.capped (n : Node) (g : Fin 4) : Bool :=
  n.setups[g].config.nearDoor && (n.doorCaps 0 || n.doorCaps 1)

/-- The effective target of a group (R98). -/
def Node.effectiveTarget (n : Node) (g : Fin 4) : Target :=
  let t := n.rawTarget g
  if n.capped g ∧ t.stage = 2 then { t with stage := 1 } else t

/-! ### The airflow check (R103) -/

/-- The velocity a group's airflow channel shows, if the channel is usable. -/
def Node.airflow (n : Node) (g : Fin 4) : Option Int :=
  match n.setups[g].config.airflowChannel with
  | none => none
  | some c => if (n.channel c).usable .velocity then some (n.channel c).published else none

/-- The airflow check of a group for a direction (R103). -/
def Node.opposed (n : Node) (g : Fin 4) (d : Direction) : Bool :=
  match n.airflow g with
  | none => false
  | some v =>
    let against := match d with
      | .eastward => v < 0
      | .westward => 0 < v
    against && n.setups[g].config.windmillLimit ≤ v.natAbs

/-! ### Contacts -/

/-- The debounced level of an input, if it is established (R117, R118). -/
def Node.contact (n : Node) (i : Nat) (h : i < 24) : Option Bool := (n.inputs[i]'h).level

/-- RUN_FB of a group is true (section 7.1). -/
def Node.runFb (n : Node) (g : Fin 4) : Bool :=
  n.contact (3 * g) (by omega) == some true

/-- TRIP_FB of a group is true (section 7.1). -/
def Node.tripFb (n : Node) (g : Fin 4) : Bool :=
  n.contact (3 * g + 1) (by omega) == some true

/-! ### The groups within the node -/

/-- While the node is not OPERATIONAL every group is held (R99). -/
def Node.held (n : Node) : Bool := n.runState == .unconfigured

/-- The surroundings of the group machines. -/
def Node.fanEnv (n : Node) : FanEnv :=
  { held := n.held
    config := fun g => n.setups[g].config
    target := n.effectiveTarget
    capped := n.capped
    zoneHeld := fun z => n.zones[z].state != .free
    runFb := n.runFb
    tripFb := n.tripFb
    opposed := n.opposed
    airMagnitude := fun g => magnitude ((n.airflow g).getD 0) }

/-- A step of the group machines and the supply unit in the surroundings of the node. -/
def Node.fanRun (n : Node) (f : FanEnv → FanRun → FanRun) : FanRun :=
  f n.fanEnv { fans := n.fans, raised := [], short := [] }

/-- The node after such a step: its groups and supply, and the reports they raised. -/
def Node.withFans (n : Node) (f : FanEnv → FanRun → FanRun) : Node :=
  let r := n.fanRun f
  ({ n with fans := r.fans }).raiseAll r.raised

/-- Changes of effective targets are presented to the groups (R98). -/
def Node.presentGroups (n : Node) : Node := n.withFans FanRun.present

/-- An examination of the start queue (R91). -/
def Node.examineQueue (n : Node) : Node := n.withFans FanRun.examine

end Sys2Proof.Machine
end

