-- ==== Sys2Proof/Machine/Doors.lean ====
section
/-!
DEFINITION. The escape door supervisors (chapter 7, sections 7.3 to 7.7). A door operation takes the
surroundings `DoorEnv` and the door with the reports raised so far; `Node.withDoor` runs one in the
node and presents the door's entry to and exit from OPEN to the fan groups (R98, R129).
-/

namespace Sys2Proof.Machine

/-- What a door reads of the rest of the node: its index, the conditions of its ZONE, SUSPECT and
DEFAULT causes (R124), its contacts, the outcome an assist decision would have now (R132), and the
tick count. -/
structure DoorEnv where
  index : Nat
  zoneCause : Bool
  suspect : Bool
  unconfigured : Bool
  closed : Option Bool
  latched : Option Bool
  assistNeeded : Bool
  clock : Nat

/-- A door in the middle of an event, with the reports raised so far. -/
structure DoorRun where
  door : Door
  raised : List Report

/-- The door changed. -/
def DoorRun.mod (f : Door → Door) (r : DoorRun) : DoorRun := { r with door := f r.door }

/-- A report of the door. -/
def DoorRun.raise (env : DoorEnv) (kind : ReportKind) (sev : Severity) (detail : Nat)
    (r : DoorRun) : DoorRun :=
  { r with raised := r.raised ++ [{ kind := kind, object := env.index, severity := sev,
                                    detail := detail }] }

/-! ### Outputs and timers -/

/-- The beacon follows the cause set and OPEN (R133). -/
def Door.light (d : Door) : Door :=
  { d with beacon := d.causes.zone || d.causes.suspect || d.state == .opened }

/-- The contact pair of R131: latch armature seated while the leaf is out of its frame. -/
def DoorEnv.disagree (env : DoorEnv) : Bool :=
  env.latched == some true && env.closed == some false

/-- Expiry of the relatch timer: HOLD is energised, and the door enters SECURED or relatch wait
(R128). -/
def Door.relatchNow (env : DoorEnv) (d : Door) : Door :=
  if env.latched = some true then
    { d with relatch := none, hold := true, state := .secured, relatchWait := false }
  else { d with relatch := none, hold := true, relatchWait := true }

/-- The relatch timer starts, once both contacts have been read; a delay of 0 expires at once
(R128). -/
def Door.startRelatch (env : DoorEnv) (d : Door) : Door :=
  if env.closed.isNone ∨ env.latched.isNone then d
  else if d.config.relatchDelay = 0 then d.relatchNow env
  else { d with relatch := Timer.seconds d.config.relatchDelay }

/-- The jam timer starts (R127). -/
def Door.startJam (d : Door) : Door :=
  { d with jam := Timer.seconds d.config.jamTime }

/-- The assist decision (R132). -/
def Door.decideAssist (env : DoorEnv) (d : Door) : Door :=
  { d with assist := env.assistNeeded }

/-! ### The cause set (R123, R124, R126, R128) -/

/-- A cause appears: the set was empty and is no longer (R126, R128). -/
def Door.causeAppears (d : Door) : Door :=
  match d.state with
  | .secured => { d with state := .released, hold := false, relatchWait := false }
  | .released => { d with relatch := none, relatchWait := false, hold := false }
  | .opened => d
  | .jammed => d
  | .fault => d

/-- The set has become empty (R128). -/
def Door.causesGone (env : DoorEnv) (d : Door) : Door :=
  match d.state with
  | .released => d.startRelatch env
  | .secured => d
  | .opened => d
  | .jammed => d
  | .fault => d

/-- A change of the cause set is presented to the door machine and to the beacon (R124, R133). -/
def Door.setCauses (env : DoorEnv) (c : Causes) (d : Door) : Door :=
  let was := d.causes.isEmpty
  let d := { d with causes := c }
  let d :=
    if was ∧ ¬ c.isEmpty then d.causeAppears
    else if ¬ was ∧ c.isEmpty then d.causesGone env
    else d
  d.light

/-- The causes that are present while their conditions hold, formed again (R124). -/
def Door.formCauses (env : DoorEnv) (d : Door) : Causes :=
  { d.causes with
    zone := env.zoneCause, suspect := env.suspect,
    dflt := env.unconfigured || d.state == .fault }

/-- The conditions of ZONE, SUSPECT or DEFAULT may have changed (R124). -/
def DoorRun.refresh (env : DoorEnv) (r : DoorRun) : DoorRun :=
  r.mod fun d => d.setCauses env (d.formCauses env)

/-- A DOOR_RELEASE order adds ORDER or removes it (R173, R124). -/
def DoorRun.setOrder (env : DoorEnv) (on : Bool) (r : DoorRun) : DoorRun :=
  r.mod fun d => d.setCauses env { d.causes with order := on }

/-! ### Entering OPEN and leaving it (R127, R129) -/

/-- Entry to OPEN, whatever the state it is entered from (R129). -/
def Door.open (env : DoorEnv) (d : Door) : Door :=
  let tail := Timer.seconds d.config.assistTail
  Door.light
    { d with
      state := .opened, hold := false, relatchWait := false, jam := none, relatch := none,
      leftOpen := Timer.seconds d.config.leftOpen,
      assistTail := if d.assist then tail else none,
      assist := d.assist && tail.isSome,
      openedAt := env.clock }

/-- DOOR_OPENED: ALARM with ZONE present, otherwise INFO (R127). -/
def DoorRun.raiseOpened (env : DoorEnv) (r : DoorRun) : DoorRun :=
  r.raise env .doorOpened (if r.door.causes.zone then .alarm else .info) r.door.causes.code

/-- CLOSED has become false (R126, R127, R128, R130). -/
def DoorRun.leafLeaves (env : DoorEnv) (r : DoorRun) : DoorRun :=
  match r.door.state with
  | .secured => (r.raise env .doorForced .alarm r.door.causes.code).mod (·.open env)
  | .released => (r.raiseOpened env).mod (·.open env)
  | .jammed => (r.raiseOpened env).mod (·.open env)
  | .opened => r
  | .fault => r

/-- The whole seconds a door has stood open, up to 65535 (R129, log entry 22). -/
def Door.openSeconds (env : DoorEnv) (d : Door) : Nat :=
  min 65535 ((env.clock - d.openedAt) / Config.ticksPerSecond)

/-- OPEN left for RELEASED by CLOSED: the passage is complete (R129). -/
def Door.close (env : DoorEnv) (d : Door) : Door :=
  let d := { d with
    state := .released, causes := { d.causes with request := false }, leftOpen := none,
    assistTail := none, assist := false }
  (if d.causes.isEmpty then d.startRelatch env else d).light

/-- CLOSED has become true (R129). -/
def DoorRun.leafReturns (env : DoorEnv) (r : DoorRun) : DoorRun :=
  match r.door.state with
  | .opened =>
    (r.raise env .doorClosed .info (r.door.openSeconds env)).mod (·.close env)
  | .secured => r
  | .released => r
  | .jammed => r
  | .fault => r

/-! ### Latch contact and fault pair (R126, R128, R131) -/

/-- LATCHED has changed, or is first read: a SECURED door that loses its seat waits for it, a door
in relatch wait that is seated is SECURED (R126, R128). The entry to RELEASED in relatch wait starts no
relatch timer, though R128 starts one where a door enters RELEASED with an empty cause set: HOLD is energised
already, and R126 says that the door waits for LATCHED (DESIGN CHOICE, log entry 47). -/
def Door.latchChanged (env : DoorEnv) (d : Door) : Door :=
  match d.state with
  | .secured =>
    if env.latched = some false ∧ env.closed = some true then
      { d with state := .released, relatchWait := true }
    else d
  | .released =>
    if d.relatchWait ∧ env.latched = some true then
      { d with state := .secured, relatchWait := false }
    else d
  | .opened => d
  | .jammed => d
  | .fault => d

/-- A door in FAULT whose contact pair no longer holds enters RELEASED or OPEN, and DEFAULT leaves
its cause set unless the node is UNCONFIGURED (R131). -/
def Door.leaveFault (env : DoorEnv) (d : Door) : Door :=
  if env.closed = some true then
    let d := { d with state := .released }
    let d := if d.causes.request then d.startJam else d
    d.setCauses env (d.formCauses env)
  else
    let d := d.open env
    d.setCauses env (d.formCauses env)

/-- After a change of either contact: the fault timer, and the leaving of FAULT (R131). -/
def Door.checkPair (env : DoorEnv) (d : Door) : Door :=
  if d.state = .fault then
    if env.disagree then d else d.leaveFault env
  else { d with faultTimer := if env.disagree then some Config.faultTicks else none }

/-- An edge of CLOSED (R126 to R131). -/
def DoorRun.closedEdge (env : DoorEnv) (v : Bool) (r : DoorRun) : DoorRun :=
  (if v then r.leafReturns env else r.leafLeaves env).mod (·.checkPair env)

/-- An edge of LATCHED (R126, R128, R131). -/
def DoorRun.latchedEdge (env : DoorEnv) (r : DoorRun) : DoorRun :=
  r.mod fun d => (d.latchChanged env).checkPair env

/-! ### PUSH (R123, R126, R127, R130, R132) -/

/-- A rising edge of PUSH (R123). -/
def Door.push (env : DoorEnv) (d : Door) : Door :=
  if d.causes.request then d
  else
    let c := { d.causes with request := true }
    match d.state with
    | .secured => ((d.setCauses env c).startJam).decideAssist env
    | .released => ((d.setCauses env c).startJam).decideAssist env
    | .jammed =>
      (({ d with state := .released, causes := c }.light).startJam).decideAssist env
    | .opened => d.setCauses env c
    | .fault => d.setCauses env c

/-- An edge of PUSH; a falling edge has no effect (R123). -/
def DoorRun.pushEdge (env : DoorEnv) (v : Bool) (r : DoorRun) : DoorRun :=
  if v then r.mod (·.push env) else r

/-! ### First readings (R134, R128, R131) -/

/-- A RELEASED door whose cause set is empty starts its relatch timer when the last of its two
contacts is first read (R128). -/
def Door.relatchIfEmpty (env : DoorEnv) (d : Door) : Door :=
  if d.state = .released ∧ d.causes.isEmpty ∧ d.relatch.isNone ∧ ¬ d.relatchWait then
    d.startRelatch env
  else d

/-- A first reading of CLOSED (R134). -/
def DoorRun.closedFirst (env : DoorEnv) (v : Bool) (r : DoorRun) : DoorRun :=
  r.mod fun d =>
    let d := ({ d with causes := { d.causes with request := false }, jam := none,
                       assist := false, assistTail := none }).light
    let d := if v then d else d.open env
    (d.checkPair env).relatchIfEmpty env

/-- A first reading of LATCHED (R134). -/
def DoorRun.latchedFirst (env : DoorEnv) (r : DoorRun) : DoorRun :=
  r.mod fun d => ((d.latchChanged env).checkPair env).relatchIfEmpty env

/-! ### Door timers (R127, R128, R129, R131) -/

/-- Expiry of a running jam timer (R127). -/
def DoorRun.jamExpired (env : DoorEnv) (r : DoorRun) : DoorRun :=
  match r.door.state with
  | .released =>
    (r.mod fun d => Door.light
      { d with state := .jammed, causes := { d.causes with request := false }, jam := none,
               assist := false, hold := false, relatchWait := false, relatch := none }).raise
      env .doorJammed .alarm r.door.config.jamTime
  | _ => r.mod fun d => { d with jam := none }

/-- Expiry of a running relatch timer (R128). -/
def DoorRun.relatchExpired (env : DoorEnv) (r : DoorRun) : DoorRun :=
  match r.door.state with
  | .released => r.mod (·.relatchNow env)
  | _ => r.mod fun d => { d with relatch := none }

/-- Expiry of a running left-open timer (R129). -/
def DoorRun.leftOpenExpired (env : DoorEnv) (r : DoorRun) : DoorRun :=
  (r.mod fun d => { d with leftOpen := none }).raise env .doorLeftOpen .alarm
    r.door.config.leftOpen

/-- Expiry of a running assist-tail timer (R129, R132). -/
def DoorRun.assistTailExpired (r : DoorRun) : DoorRun :=
  r.mod fun d => { d with assistTail := none, assist := false }

/-- Expiry of a running fault timer: the door enters FAULT (R131). -/
def DoorRun.faultExpired (env : DoorEnv) (r : DoorRun) : DoorRun :=
  (r.mod fun d =>
    let d := { d with
      state := .fault, hold := false, assist := false, relatchWait := false, jam := none,
      relatch := none, leftOpen := none, assistTail := none, faultTimer := none }
    d.setCauses env (d.formCauses env)).raise env .doorFault .alarm (doorStateCode r.door.state)

/-! ### The doors within the node -/

/-- The door's ZONE condition (R124). -/
def Node.zoneCause (n : Node) (d : Fin 2) : Bool :=
  match n.activeZone n.doors[d].config.zone with
  | some e => e.mode == .alert || e.mode == .fire
  | none => false

/-- The outcome of an assist decision made now (R132). -/
def Node.assistNeeded (n : Node) (d : Fin 2) : Bool :=
  match n.doors[d].config.pressureChannel with
  | none => true
  | some c =>
    if (n.channel c).usable .dpressure then
      n.doors[d].config.assistLimit ≤ magnitude (n.channel c).published
    else true

/-- The surroundings of a door. -/
def Node.doorEnv (n : Node) (d : Fin 2) : DoorEnv :=
  { index := d
    zoneCause := n.zoneCause d
    suspect := n.sensors.fireSuspect || n.nicheAlert
    unconfigured := n.held
    closed := n.contact (12 + 3 * d) (by omega)
    latched := n.contact (13 + 3 * d) (by omega)
    assistNeeded := n.assistNeeded d
    clock := n.time.clock }

/-- A step of one door in the surroundings of the node, with the reports it raises; a change of the
door cap is presented to the groups (R98). -/
def Node.withDoor (n : Node) (d : Fin 2) (f : DoorEnv → DoorRun → DoorRun) : Node :=
  let r := f (n.doorEnv d) { door := n.doors[d], raised := [] }
  (({ n with doors := n.doors.set d r.door }).raiseAll r.raised).presentGroups

/-- The causes of both doors formed again, in order 0 and 1 (R124, R140). -/
def Node.refreshDoors (n : Node) : Node :=
  (n.withDoor 0 DoorRun.refresh).withDoor 1 DoorRun.refresh

/-- A change of a zone entry is presented to the groups, in ascending order, and then to the doors
(R140, R136, R156). The door cap that a change of FIRE mode brings to near_door groups is presented with
the groups, in their ascending order (R98), and not at the doors' turn (DESIGN CHOICE, log entry 43). -/
def Node.presentZone (n : Node) : Node :=
  n.presentGroups.refreshDoors

end Sys2Proof.Machine
end

