-- ==== Sys2Proof/Machine/Operands.lean ====
section
/-!
DEFINITION. Operands as bytes: multi-byte fields (section 1.6, byte order), the CRC trailer (R63)
and the telegram as it stands on the line (section 3.8, R41).
-/

namespace Sys2Proof.Machine

/-! ### Fields -/

/-- A count as one byte. -/
def b8 (n : Nat) : Byte := BitVec.ofNat 8 n

/-- A field of one byte. -/
def put8 (n : Nat) : List Byte := [b8 n]

/-- A field of two bytes, most significant first. -/
def put16 (n : Nat) : List Byte := [b8 (n / 256), b8 n]

/-- A field of three bytes, most significant first. -/
def put24 (n : Nat) : List Byte := [b8 (n / 65536), b8 (n / 256), b8 n]

/-- A field of four bytes, most significant first. -/
def put32 (n : Nat) : List Byte := [b8 (n / 16777216), b8 (n / 65536), b8 (n / 256), b8 n]

/-- A signed field of two bytes, in two's complement. -/
def putS16 (i : Int) : List Byte := put16 (i % 65536).toNat

/-- A signed field of three bytes, in two's complement. -/
def putS24 (i : Int) : List Byte := put24 (i % 16777216).toNat

/-- A yes/no field. -/
def putFlag (b : Bool) : List Byte := put8 (flag b)

/-- An optional field: a presence byte, then the field, or as many zero bytes (section 3.8). -/
def putOption {α : Type} (size : Nat) (put : α → List Byte) : Option α → List Byte
  | some a => put8 1 ++ put a
  | none => put8 0 ++ List.replicate size 0

/-- The byte at offset `i`. -/
def get8 (d : List Byte) (i : Nat) : Nat := (d.getD i 0).toNat

/-- The two-byte field at offset `i`. -/
def get16 (d : List Byte) (i : Nat) : Nat := get8 d i * 256 + get8 d (i + 1)

/-- A two-byte count read as two's complement. -/
def signed16 (n : Nat) : Int := if n < 32768 then n else (n : Int) - 65536

/-- The signed two-byte field at offset `i`. -/
def getS16 (d : List Byte) (i : Nat) : Int := signed16 (get16 d i)

/-- The yes/no field at offset `i`. -/
def getFlag (d : List Byte) (i : Nat) : Option Bool := unflag (get8 d i)

/-- An index below `n`, if the number is one. -/
def index (n : Nat) (i : Nat) : Option (Fin n) := if h : i < n then some ⟨i, h⟩ else none

/-- The optional index field whose presence byte is at offset `i`: none where the bytes name no
value, otherwise the field's value. -/
def getOptionalIndex (n : Nat) (d : List Byte) (i : Nat) : Option (Option (Fin n)) :=
  match getFlag d i with
  | none => none
  | some false => some none
  | some true => (index n (get8 d (i + 1))).map some

/-! ### The CRC trailer (R63) -/

/-- One bit of the CRC: generator polynomial 1021h, most significant bit first. -/
def crcShift (c : BitVec 16) : BitVec 16 :=
  if c.msb then (c <<< 1) ^^^ 0x1021#16 else c <<< 1

/-- One byte of the CRC. -/
def crcByte (c : BitVec 16) (b : Byte) : BitVec 16 :=
  let c := c ^^^ (b.zeroExtend 16 <<< 8)
  crcShift (crcShift (crcShift (crcShift (crcShift (crcShift (crcShift (crcShift c)))))))

/-- The CRC over a run of bytes, from the initial value FFFFh. -/
def crc (bytes : List Byte) : BitVec 16 :=
  bytes.foldl crcByte 0xFFFF#16

/-- The two trailer bytes, most significant first. -/
def trailer (bytes : List Byte) : List Byte :=
  let c := crc bytes
  [(c >>> 8).truncate 8, c.truncate 8]

/-! ### The telegram on the line -/

/-- The header bytes of a telegram (section 3.8). -/
def headerBytes (t : Telegram) : List Byte :=
  [b8 (kindCode t.kind), b8 (classCode t.cls), b8 (routeCode t.route), t.hop, t.target, t.origin,
   t.tag, b8 t.body.length]

/-- The bytes of a telegram as they cross the line, trailer included. -/
def wireBytes (t : Telegram) : List Byte :=
  let bytes := headerBytes t ++ t.body
  bytes ++ trailer bytes

/-- The header check of R41 on the target field. -/
def targetGood : Route → Nat → Bool
  | .path, t => 1 ≤ t && t ≤ 126
  | .zone, t => t ≤ 31
  | .toEnd, t => t == 0
  | .bothEnds, t => t == 0

/-- The header and length checks of R41 on a telegram whose kind, class and route mode are codes of
their tables. -/
def telegramGood (t : Telegram) : Bool :=
  t.hop.toNat ≤ 126 && targetGood t.route t.target.toNat && t.origin.toNat ≤ 127 &&
    t.body.length ≤ 48

/-- The telegram that the received bytes hold, if they are good by the length, CRC and header
checks of R41. -/
def receiveCheck (bytes : List Byte) : Option Telegram :=
  match bytes with
  | k :: c :: r :: hop :: target :: origin :: tag :: len :: rest =>
    let body := rest.take len.toNat
    let head := [k, c, r, hop, target, origin, tag, len]
    if rest.length = len.toNat + 2 && rest.drop len.toNat == trailer (head ++ body) then
      match kindOf k.toNat, classOf c.toNat, routeOf r.toNat with
      | some kind, some cls, some route =>
        let t : Telegram := { kind, cls, route, hop, target, origin, tag, body }
        if telegramGood t then some t else none
      | _, _, _ => none
    else none
  | _ => none

/-- The five kinds that are replies or notices (section 3.6). -/
def isReply : Kind → Bool
  | .orderReply | .zoneReply | .bindReply | .serviceReply | .pathNotice => true
  | _ => false

end Sys2Proof.Machine
end

