-- ==== Sys2Proof/Machine/Line.lean ====
section
/-!
DEFINITION. The side units: queues, transmitter, keep-alive, and a side's entering and leaving UP
(chapter 3, sections 3.2 to 3.5 and 3.7; run states of section 11.4).
-/

namespace Sys2Proof.Machine

/-! ### Access -/

/-- The side unit of a port. -/
def Line.side (l : Line) : Side → SideUnit
  | .west => l.west
  | .east => l.east

/-- The line with one side unit changed. -/
def Line.modSide (l : Line) (s : Side) (f : SideUnit → SideUnit) : Line :=
  match s with
  | .west => { l with west := f l.west }
  | .east => { l with east := f l.east }

/-- The side unit of a port of the node. -/
def Node.side (n : Node) (s : Side) : SideUnit := n.line.side s

/-- The node with one side unit changed. -/
def Node.modSide (n : Node) (s : Side) (f : SideUnit → SideUnit) : Node :=
  { n with line := n.line.modSide s f }

/-- Whether a side is UP. -/
def Node.isUp (n : Node) (s : Side) : Bool := (n.side s).state == .up

/-- Whether the node's ID is valid (R178). -/
def Node.validId (n : Node) : Bool := validStrap n.strap

/-- The node ID as a header byte. -/
def Node.idByte (n : Node) : Byte := b8 n.strap.toNat

/-- A side's queue of a class (R50). -/
def SideUnit.queue (u : SideUnit) : TelegramClass → List Queued
  | .alarm => u.alarm
  | .control => u.control
  | .sample => u.sample
  | .service => u.service

/-- A side with its queue of a class replaced. -/
def SideUnit.setQueue (u : SideUnit) (c : TelegramClass) (q : List Queued) : SideUnit :=
  match c with
  | .alarm => { u with alarm := q }
  | .control => { u with control := q }
  | .sample => { u with sample := q }
  | .service => { u with service := q }

/-- Capacity of a class queue (R50). -/
def capacity : TelegramClass → Nat
  | .alarm => Config.alarmCapacity
  | .control => Config.controlCapacity
  | .sample => Config.sampleCapacity
  | .service => Config.serviceCapacity

/-- Whether a side's queue of a class has room (R50). -/
def SideUnit.hasRoom (u : SideUnit) (c : TelegramClass) : Bool :=
  (u.queue c).length < capacity c

/-! ### The arbiter (R51) -/

/-- The head of the highest non-empty class, with its class. -/
def SideUnit.nextClass (u : SideUnit) : Option TelegramClass :=
  if !u.alarm.isEmpty then some .alarm
  else if !u.control.isEmpty then some .control
  else if !u.sample.isEmpty then some .sample
  else if !u.service.isEmpty then some .service
  else none

/-- A free transmitter takes the head of the highest non-empty class (R51). -/
def SideUnit.serve (u : SideUnit) : SideUnit :=
  if u.transmitting.isSome then u
  else
    match u.nextClass with
    | none => u
    | some c => { u.setQueue c (u.queue c).tail with transmitting := (u.queue c).head? }

/-- A telegram joins the tail of its class queue; a free transmitter takes it at once (R50, R51). -/
def SideUnit.join (u : SideUnit) (e : Queued) : SideUnit :=
  (u.setQueue e.telegram.cls (u.queue e.telegram.cls ++ [e])).serve

/-- R52: which queued telegram a full SAMPLE queue evicts, and the new telegram's joining. -/
def SideUnit.evictAndJoin (u : SideUnit) (e : Queued) : SideUnit :=
  let same := fun (x : Queued) => x.telegram.origin == e.telegram.origin
  let kept := if u.sample.any same then u.sample.eraseP same else u.sample.tail
  ({ u with sample := kept }).join e

/-! ### Offering a telegram to a side (R50 to R54, R60, R62) -/

/-- The report of a dropped telegram (R53). -/
def txDropped (s : Side) (k : Kind) : Report :=
  { kind := .txDropped, object := sideCode s, severity := .info, detail := kindCode k }

/-- A telegram whose dropping is reported and has no other effect: a telegram that is not both
PATH-routed and forwarded, or that is a reply or notice (R53, R54, R60). -/
def Node.offerPlain (s : Side) (e : Queued) (n : Node) : Node :=
  if !n.isUp s then n.raise (txDropped s e.telegram.kind)
  else if (n.side s).hasRoom e.telegram.cls then n.modSide s (·.join e)
  else
    match e.telegram.cls with
    | .sample => n.modSide s (·.evictAndJoin e)
    | _ => n.raise (txDropped s e.telegram.kind)

/-- Causes of a path notice (R62). -/
inductive NoticeCause where
  | sideDown | hopLimit | congested
  deriving DecidableEq, Repr

/-- Code of a notice's cause (section 3.8). -/
def noticeCauseCode : NoticeCause → Nat
  | .sideDown => 1 | .hopLimit => 2 | .congested => 3

/-- The notice about a telegram whose header carries the hop count at detection (R62). -/
def pathNotice (n : Node) (c : NoticeCause) (t : Telegram) : Telegram :=
  { kind := .pathNotice, cls := .control, route := .toEnd, hop := 0, target := 0,
    origin := n.idByte, tag := t.tag,
    body := put8 (noticeCauseCode c) ++ [n.idByte, t.hop] ++ put8 (kindCode t.kind) ++ [t.tag] }

/-- A notice is offered to the arrival side of the telegram concerned; a node with an invalid strap
value makes none (R62). -/
def Node.notify (arrival : Side) (c : NoticeCause) (t : Telegram) (n : Node) : Node :=
  if n.validId then n.offerPlain arrival ⟨pathNotice n c t, .here⟩ else n

/-- The side a forwarded telegram arrived on when a notice may be owed for it: PATH-routed, not a
reply or notice, and forwarded (R48, R53, R54, R60). -/
def Queued.noticeSide (e : Queued) : Option Side :=
  match e.source with
  | .here => none
  | .forwarded a => if e.telegram.route == .path && !isReply e.telegram.kind then some a else none

/-- A telegram is offered to a side, in full: R50 to R54 and R60. -/
def Node.offer (s : Side) (e : Queued) (n : Node) : Node :=
  if !n.isUp s then
    match e.noticeSide with
    | some a => n.notify a .sideDown e.telegram
    | none => n.raise (txDropped s e.telegram.kind)
  else if (n.side s).hasRoom e.telegram.cls then n.modSide s (·.join e)
  else
    match e.telegram.cls with
    | .sample => n.modSide s (·.evictAndJoin e)
    | .alarm => n.raise (txDropped s e.telegram.kind)
    | .control =>
      let n := n.raise (txDropped s e.telegram.kind)
      match e.noticeSide with
      | some a => n.notify a .congested e.telegram
      | none => n
    | .service =>
      match e.noticeSide with
      | some a => n.notify a .congested e.telegram
      | none => n.raise (txDropped s e.telegram.kind)

/-- A telegram of this node is offered to one named side (R60, R61). -/
def Node.sendTo (s : Side) (t : Telegram) (n : Node) : Node :=
  n.offer s ⟨t, .here⟩

/-- A BOTH_ENDS telegram of this node goes to each side that is UP at that moment (R61). -/
def Node.sendBoth (t : Telegram) (n : Node) : Node :=
  let w := n.isUp .west
  let e := n.isUp .east
  let n := if w then n.offer .west ⟨t, .here⟩ else n
  if e then n.offer .east ⟨t, .here⟩ else n

/-- A received telegram is forwarded out of the side opposite its arrival side (R56, R57). -/
def Node.forward (arrival : Side) (t : Telegram) (n : Node) : Node :=
  n.offer arrival.other ⟨t, .forwarded arrival⟩

/-! ### Entering and leaving UP (R47, R48, R177) -/

/-- Causes of a side's leaving UP (R48). -/
inductive DownCause where
  | silence | errors
  deriving DecidableEq, Repr

/-- Code of the cause in SIDE_DOWN's detail (R48). -/
def downCauseCode : DownCause → Nat
  | .silence => 1 | .errors => 2

/-- Whether the transmission in progress is one that leaving UP stops: any but an IDLE (R48). -/
def SideUnit.cutOff (u : SideUnit) : Option Queued :=
  u.transmitting.filter fun e => e.telegram.kind != .idle

/-- The telegrams that leaving UP flushes, in the order of R48. -/
def SideUnit.flushed (u : SideUnit) : List Queued :=
  u.cutOff.toList ++ u.alarm ++ u.control ++ u.sample ++ u.service

/-- A side unit as leaving UP leaves it (R48). The idle timer runs on; where it had expired while
the stopped telegram was being sent, it starts again, so that the side goes on sending IDLE
(log entry 19). -/
def SideUnit.drop (u : SideUnit) : SideUnit :=
  { u with
    state := .down, provingCount := 0, silence := none, alarm := [], control := [], sample := [],
    service := [],
    transmitting := if u.cutOff.isSome then none else u.transmitting,
    idle := if u.cutOff.isSome && u.idle.isNone then some Config.idleTicks else u.idle }

/-- The notice owed for one flushed telegram, offered to the other side if it is UP (R48). -/
def Node.notifyOne (other : Side) (n : Node) (e : Queued) : Node :=
  match e.noticeSide with
  | some _ => if n.isUp other then n.notify other .sideDown e.telegram else n
  | none => n

/-- The notices of R48, in the order in which their telegrams stood. -/
def Node.notifyFlushed (other : Side) (es : List Queued) (n : Node) : Node :=
  es.foldl (Node.notifyOne other) n

/-- An OPERATIONAL node with no side UP enters ISOLATED (R177). -/
def Node.checkIsolated (n : Node) : Node :=
  if n.runState = .operational ∧ !n.isUp .west ∧ !n.isUp .east then
    ({ n with runState := .isolated }).raise
      { kind := .isolated, object := 0, severity := .alarm, detail := 0 }
  else n

/-- A side leaves UP (R48). -/
def Node.leaveUp (s : Side) (c : DownCause) (n : Node) : Node :=
  let gone := (n.side s).flushed
  let n := n.modSide s SideUnit.drop
  let n := n.notifyFlushed s.other gone
  let n := n.raise { kind := .sideDown, object := sideCode s, severity := .alarm,
                     detail := 256 * downCauseCode c + gone.length }
  n.checkIsolated

/-- A side enters UP from PROVING (R47), and an ISOLATED node is OPERATIONAL again (R177). -/
def Node.enterUp (s : Side) (n : Node) : Node :=
  let n := n.modSide s fun u =>
    { u with state := .up, provingCount := 0, silence := some n.params.silenceLimit }
  let n := n.raise { kind := .sideUp, object := sideCode s, severity := .info,
                     detail := (n.side s).neighbourId.getD 255 }
  if n.runState = .isolated then
    ({ n with runState := .operational }).raise
      { kind := .rejoined, object := 0, severity := .info, detail := sideCode s }
  else n

/-! ### Reception on a side (R42, R44, R46) -/

/-- A bad telegram raises the error score and resets a PROVING count; a score of 8 takes an UP side
out of UP (R42, R44). -/
def Node.receiveBad (s : Side) (n : Node) : Node :=
  let n := n.modSide s fun u =>
    { u with errorScore := min 8 (u.errorScore + 1),
             provingCount := if u.state = .proving then 0 else u.provingCount }
  if (n.side s).state = .up ∧ (n.side s).errorScore = 8 then n.leaveUp s .errors else n

/-- A good telegram on a side in DOWN or PROVING starts or advances the proving (R42). -/
def Node.prove (s : Side) (n : Node) : Node :=
  match (n.side s).state with
  | .down => n.modSide s fun u =>
      { u with state := .proving, provingCount := 0, silence := some n.params.silenceLimit }
  | .proving =>
      let n := n.modSide s fun u =>
        { u with provingCount := u.provingCount + 1, silence := some n.params.silenceLimit }
      if (n.side s).provingCount ≥ 3 then n.enterUp s else n
  | .up => n

/-- A good telegram on an UP side loads its silence timer (R42, R43). -/
def Node.loadSilence (s : Side) (n : Node) : Node :=
  n.modSide s fun u => { u with silence := some n.params.silenceLimit }

/-- A good IDLE on an UP side is consumed by the side's neighbour record (R46). -/
def Node.recordNeighbour (s : Side) (body : List Byte) (n : Node) : Node :=
  match body with
  | [id, run] =>
    match runStateOf run.toNat with
    | none => n
    | some r =>
      let changed := match (n.side s).neighbourId with
        | some old => old != id.toNat
        | none => false
      let n := n.modSide s fun u =>
        { u with neighbourId := some id.toNat, neighbourRunState := some r }
      if changed then
        n.raise { kind := .neighbourChanged, object := sideCode s, severity := .info,
                  detail := id.toNat }
      else n
  | _ => n

/-! ### Side timers and the transmitter (R43, R44, R45, R51) -/

/-- Expiry of a running silence timer (R43). -/
def Node.silenceExpired (s : Side) (n : Node) : Node :=
  match (n.side s).state with
  | .down => n
  | .proving => n.modSide s fun u =>
      { u with state := .down, provingCount := 0, silence := none }
  | .up => n.leaveUp s .silence

/-- A decay step of a side's error score (R44). -/
def Node.decayScore (s : Side) (n : Node) : Node :=
  n.modSide s fun u => { u with errorScore := u.errorScore - 1 }

/-- The IDLE telegram of the node (R45). -/
def idleTelegram (n : Node) : Telegram :=
  { kind := .idle, cls := .service, route := .toEnd, hop := 0, target := 0, origin := n.idByte,
    tag := 0, body := [n.idByte] ++ put8 (runStateCode n.runState) }

/-- Expiry of a running idle timer: with the transmitter free and the queues empty an IDLE is sent
(R45). -/
def Node.idleExpired (s : Side) (n : Node) : Node :=
  n.modSide s fun u =>
    { u with idle := none,
             transmitting :=
               if u.transmitting.isNone && u.nextClass.isNone then some ⟨idleTelegram n, .here⟩
               else u.transmitting }

/-- Completion of a transmission: the transmitter is free, the idle timer restarts, and the choice
is made again (R51). -/
def Node.transmissionDone (s : Side) (n : Node) : Node :=
  if (n.side s).transmitting.isSome then
    n.modSide s fun u =>
      ({ u with transmitting := none, idle := some Config.idleTicks } : SideUnit).serve
  else n

end Sys2Proof.Machine
end

