-- ==== Sys2Proof/Machine/Zones.lean ====
section
/-!
DEFINITION. The zone unit's handling of zone orders, zone replies and the ack-wait timer, the closing
of an aggregation record and the freeing of an entry (chapter 8).
-/

namespace Sys2Proof.Machine

/-! ### Access -/

/-- The node with one zone entry changed. -/
def Node.modZone (n : Node) (z : Fin 32) (f : Zone → Zone) : Node :=
  { n with zones := upd n.zones z f }

/-! ### Replies (R139, R143, R150) -/

/-- The header of every ZONE_REPLY of the node (R150). -/
def zoneReplyTelegram (n : Node) (tag : Byte) (body : List Byte) : Telegram :=
  { kind := .zoneReply, cls := .alarm, route := .toEnd, hop := 0, target := 0, origin := n.idByte,
    tag := tag, body := body }

/-- The body of a ZONE_REPLY of the node (section 3.8). -/
def zoneReplyBody (n : Node) (z : Nat) (final untracked : Bool) (o : ZoneOutcome)
    (applied failed : Nat) : List Byte :=
  put8 z ++ put8 (flag final + 2 * flag untracked) ++ put8 (outcomeCode o) ++ [n.idByte] ++
    put8 applied ++ put8 failed

/-- A ZONE_REPLY is offered to a side; a node with an invalid strap value sends none (R139). -/
def Node.sendZoneReply (s : Side) (tag : Byte) (body : List Byte) (n : Node) : Node :=
  if n.validId then n.sendTo s (zoneReplyTelegram n tag body) else n

/-- The immediate refusal of an order (R139). -/
def Node.refuseOrder (s : Side) (z : Fin 32) (tag : Byte) (o : ZoneOutcome) (n : Node) : Node :=
  n.sendZoneReply s tag (zoneReplyBody n z true false o 0 0)

/-- Whether a local outcome is a local nack (R141). -/
def Record.nack (r : Record) : Option ZoneOutcome := r.localOutcome.filter (· != .ok)

/-- The outcome of a record's final reply, the worst of those that apply (R150). `cause` is
DOWNSTREAM_TIMEOUT, SUPERSEDED or ZONE_TORN_DOWN when the reply is sent for that reason. -/
def Record.finalOutcome (r : Record) (cause : Option ZoneOutcome) : ZoneOutcome :=
  (((r.nack.getD .ok).worse r.forwardOutcome).worse
    (if r.untracked then .budgetShort else .ok)).worse (cause.getD .ok)

/-- A record closes: its final reply is offered to its order side, and it is removed (R150). -/
def Node.closeRecord (z : Fin 32) (cause : Option ZoneOutcome) (n : Node) : Node :=
  match n.zones[z].record with
  | none => n
  | some r =>
    (n.modZone z fun e => { e with record := none }).sendZoneReply r.side r.tag
      (zoneReplyBody n z true r.untracked (r.finalOutcome cause) r.applied r.failed)

/-! ### Entering FREE (R136) -/

/-- An entry's fields when FREE; the lapse note stands beside the entry and is not one of them. -/
def Zone.freed (e : Zone) : Zone := { lapseNote := e.lapseNote }

/-- An entry enters FREE: its fields take their FREE values and its reserve is released, the change is
presented to the groups and the doors, and the start queue is examined (R136, R85, R91,
log entry 18). -/
def Node.freeEntry (z : Fin 32) (n : Node) : Node :=
  ({ n with zones := upd n.zones z Zone.freed, fans := n.fans.release z }).presentZone.examineQueue

/-! ### Zone orders (R138 to R144) -/

/-- The fields of a ZONE_ORDER body (section 3.8). -/
structure OrderBody where
  mode : Mode
  direction : Direction
  stage : Nat
  reply : Bool
  budget : Nat
  deriving DecidableEq, Repr

/-- The body check of R139. -/
def orderBody (body : List Byte) : Option OrderBody :=
  match body with
  | [m, d, st, rq, _, _] =>
    match modeOf m.toNat, directionOf d.toNat, unflag rq.toNat with
    | some mode, some direction, some reply =>
      if st.toNat ≤ 2 ∧ get16 body 4 ≤ 6000 then
        some { mode, direction, stage := st.toNat, reply, budget := get16 body 4 }
      else none
    | _, _, _ => none
  | _ => none

/-- The body of the copy that is passed on (R142, R144). -/
def OrderBody.forwarded (o : OrderBody) (reply : Bool) (budget : Nat) : List Byte :=
  put8 (modeCode o.mode) ++ put8 (directionCode o.direction) ++ put8 o.stage ++ putFlag reply ++
    put16 budget

/-- An applied order sets the mode fields of the entry (R138). -/
def Zone.applyOrder (now : Nat) (o : OrderBody) (e : Zone) : Zone :=
  { e with
    mode := o.mode, modeDirection := o.direction, modeStage := o.stage,
    normalDirection := if o.mode = .normal then o.direction else e.normalDirection,
    modeSince := if e.mode = o.mode then e.modeSince else now }

/-- A group that takes a zone target from the mode applied (R141). -/
def Node.affected (n : Node) (z : Fin 32) (m : Mode) (g : Fin 4) : Bool :=
  n.setups[g].config.zone == some z &&
    match m with
    | .quiet => true
    | .fire => !n.setups[g].config.fireExempt
    | .normal => false
    | .alert => false

/-- The local outcome at the end of the presentation (R141). `short` holds the groups whose FIRE
entry was answered "cannot be met now" during it (R90). -/
def Node.localOutcome (n : Node) (z : Fin 32) (m : Mode) (short : List (Fin 4)) :
    Option ZoneOutcome :=
  if !n.zones[z].equipped then none
  else
    let some? := fun (p : Fin 4 → Bool) => groupIndices.any fun g => n.affected z m g && p g
    if some? fun g => n.fans.groups[g].state == .tripped || n.fans.groups[g].state == .locked then
      some .groupUnavailable
    else if some? fun g => short.contains g then some .supplyShort
    else some .ok

/-- The record of an accepted order that asks for a reply (R143), as it stands once R144 has settled
what is passed on: with an ack-wait timer where a reply from beyond is awaited, and untracked where
the order went on without one. -/
def newRecord (s : Side) (tag : Byte) (o : OrderBody) (forward : Bool)
    (localOutcome : Option ZoneOutcome) : Record :=
  { tag := tag, side := s, localOutcome := localOutcome, forwardOutcome := .ok,
    applied := if localOutcome = some .ok then 1 else 0,
    failed := match localOutcome with
      | none => 0
      | some x => if x = .ok then 0 else 1,
    untracked := forward && decide (o.budget < 4),
    ackWait := if forward ∧ 4 ≤ o.budget then some o.budget else none }

/-- The non-final reply of a local nack (R143). -/
def Node.sendNack (s : Side) (z : Fin 32) (r : Record) (n : Node) : Node :=
  match r.nack with
  | none => n
  | some x => n.sendZoneReply s r.tag (zoneReplyBody n z false false x 0 1)

/-- The copy of an order that is passed on out of the far side, if the entry forwards (R142, R144).
`t` carries the incremented hop count. -/
def Node.passOrder (s : Side) (z : Fin 32) (t : Telegram) (body : List Byte) (n : Node) : Node :=
  if n.zones[z].forward then n.forward s { t with body := body } else n

/-- An accepted order without a reply requested passes on and is not answered (R142). -/
def Node.unansweredOrder (s : Side) (z : Fin 32) (t : Telegram) (o : OrderBody) (n : Node) : Node :=
  n.passOrder s z t (o.forwarded false 0)

/-- An accepted order with a reply requested creates a record (R143, R144). -/
def Node.answeredOrder (s : Side) (z : Fin 32) (t : Telegram) (o : OrderBody)
    (localOutcome : Option ZoneOutcome) (n : Node) : Node :=
  let r := newRecord s t.tag o n.zones[z].forward localOutcome
  let n := (n.modZone z fun e => { e with record := some r }).sendNack s z r
  if r.ackWait.isSome then n.passOrder s z t (o.forwarded true (o.budget - 2))
  else (n.passOrder s z t (o.forwarded false 0)).closeRecord z none

/-- An accepted order: the mode fields, the presentation, the local outcome, the supersession of an
old record, and the answer (R138, R140 to R144). -/
def Node.acceptOrder (s : Side) (z : Fin 32) (t : Telegram) (o : OrderBody) (n : Node) : Node :=
  let n := n.modZone z (Zone.applyOrder n.time.uptime o)
  let short := (n.fanRun FanRun.present).short
  let n := n.presentZone
  let outcome := n.localOutcome z o.mode short
  let n := n.closeRecord z (some .superseded)
  if o.reply then n.answeredOrder s z t o outcome else n.unansweredOrder s z t o

/-- A ZONE_ORDER that reaches the zone unit (R139); `t` carries the incremented hop count. -/
def Node.zoneOrder (s : Side) (t : Telegram) (n : Node) : Node :=
  match orderBody t.body, index 32 t.target.toNat with
  | some o, some z =>
    let e := n.zones[z]
    if e.state ≠ .bound then
      if o.reply then n.refuseOrder s z t.tag .zoneUnbound else n
    else if e.inputSide ≠ s then
      if o.reply then n.refuseOrder s z t.tag .wrongSide else n
    else n.acceptOrder s z t o
  | _, _ => n

/-! ### Zone replies (R145 to R148) -/

/-- The fields of a ZONE_REPLY body. -/
structure ReplyBody where
  zone : Nat
  final : Bool
  untracked : Bool
  outcome : ZoneOutcome
  reporter : Nat
  applied : Nat
  failed : Nat
  deriving DecidableEq, Repr

/-- The body check of R145. -/
def replyBody (body : List Byte) : Option ReplyBody :=
  match body with
  | [z, f, o, id, a, x] =>
    match outcomeOf o.toNat with
    | some outcome =>
      if f.toNat ≤ 3 then
        some { zone := z.toNat, final := f.toNat % 2 = 1, untracked := 2 ≤ f.toNat, outcome,
               reporter := id.toNat, applied := a.toNat, failed := x.toNat }
      else none
    | none => none
  | _ => none

/-- A dropped reply; a final one raises ZONE_LATE_REPLY (R146). -/
def Node.dropReply (z : Fin 32) (t : Telegram) (r : ReplyBody) (n : Node) : Node :=
  if r.final then
    n.raise { kind := .zoneLateReply, object := z, severity := .info,
              detail := 256 * t.tag.toNat + r.reporter }
  else n

/-- What a matching reply changes in a record: the outcome of either reply (R147, R148), and the counts,
the untracked flag and the timer for a final one (R148). -/
def Record.take (r : Record) (b : ReplyBody) : Record :=
  let r := { r with forwardOutcome := r.forwardOutcome.worse b.outcome }
  if b.final then
    { r with applied := min 126 (r.applied + b.applied), failed := min 126 (r.failed + b.failed),
             untracked := r.untracked || b.untracked, ackWait := none }
  else r

/-- A reply taken by a record (R146 to R148). -/
def Node.takeReply (s : Side) (z : Fin 32) (t : Telegram) (b : ReplyBody) (r : Record) (n : Node) :
    Node :=
  if t.tag ≠ r.tag then n.dropReply z t b
  else
    let n := n.modZone z fun e => { e with record := some (r.take b) }
    if b.final then n.closeRecord z none else n.forward s t

/-- A ZONE_REPLY shown to the zone unit (R145), with the forwarding of one that passes on (R57); `t`
carries the incremented hop count. -/
def Node.zoneReply (s : Side) (t : Telegram) (n : Node) : Node :=
  match replyBody t.body with
  | none => n.forward s t
  | some b =>
    match index 32 b.zone with
    | none => n.forward s t
    | some z =>
      let e := n.zones[z]
      match e.record with
      | some r => if s = r.side.other then n.takeReply s z t b r else n.forward s t
      | none =>
        if e.active ∧ s = e.inputSide.other then n.dropReply z t b else n.forward s t

/-! ### The ack-wait timer (R149) -/

/-- Expiry of a running ack-wait timer (R149). -/
def Node.ackWaitExpired (z : Fin 32) (n : Node) : Node :=
  n.closeRecord z (some .downstreamTimeout)

/-- Whether a record's ack-wait timer runs. -/
def Zone.waiting (e : Zone) : Bool :=
  match e.record with
  | some r => r.ackWait.isSome
  | none => false

end Sys2Proof.Machine
end

