-- ==== Sys2Proof/Machine/Binding.lean ====
section
/-!
DEFINITION. Zone binding, takeover, unbinding and teardown, and the bind-wait timer (chapter 9).
Telegrams given to these operations carry the incremented hop count (R55).
-/

namespace Sys2Proof.Machine

/-- Outcomes of a bind (section 3.8). -/
inductive BindOutcome where
  | ok | sideDown | badZone | wrongSide | supplyShort | bindLapsed
  deriving DecidableEq, Repr

/-- Code of a bind outcome. -/
def bindOutcomeCode : BindOutcome → Nat
  | .ok => 0 | .sideDown => 1 | .badZone => 2 | .wrongSide => 3 | .supplyShort => 4
  | .bindLapsed => 5

/-- The zone unit's answer about a BIND or UNBIND that it is shown (R58). -/
inductive Shown where
  | pass | endsHere
  deriving DecidableEq, Repr

/-! ### BIND (R152 to R156, R161) -/

/-- The fields of a BIND body. -/
structure BindBody where
  zone : Nat
  activating : Nat
  takeover : Bool
  deriving DecidableEq, Repr

/-- The body check of R152. -/
def bindBody (body : List Byte) : Option BindBody :=
  match body with
  | [z, a, k] =>
    match unflag k.toNat with
    | some takeover =>
      if 1 ≤ a.toNat ∧ a.toNat ≤ 126 then some { zone := z.toNat, activating := a.toNat, takeover }
      else none
    | none => none
  | _ => none

/-- The BIND_REPLY of the node (R153). -/
def bindReplyTelegram (n : Node) (tag : Byte) (zone : Nat) (o : BindOutcome) : Telegram :=
  { kind := .bindReply, cls := .control, route := .toEnd, hop := 0, target := 0,
    origin := n.idByte, tag := tag,
    body := put8 zone ++ put8 (bindOutcomeCode o) ++ [n.idByte] }

/-- The fire reserve of a zone: the sum of I2 over the zone's groups that are not LOCKED (R154). -/
def Node.reserveSum (n : Node) (z : Fin 32) : Nat :=
  (groupIndices.map fun g =>
    if n.setups[g].config.zone = some z ∧ n.fans.groups[g].state ≠ .locked then
      n.setups[g].config.i2
    else 0).sum

/-- Whether the node has a group or door in a zone: the local value of an entry (R154). -/
def Node.hasLocal (n : Node) (z : Fin 32) : Bool :=
  n.setups.any (fun s => s.config.zone == some z) || n.doors.any fun d => d.config.zone == some z

/-- The third check of R153, with the takeover of R161. -/
def Node.sideFits (n : Node) (s : Side) (takeover : Bool) (e : Zone) : Bool :=
  match e.state with
  | .free => true
  | .binding => false
  | .bound => e.inputSide == s || (takeover && (n.side e.inputSide).state == .down)

/-- The four checks of an activating node in order (R153): the zone, and the account with the reserve
charged for a FREE entry; or the first failure. -/
def Node.bindChecks (n : Node) (s : Side) (forThis : Bool) (b : BindBody) :
    Except BindOutcome (Fin 32 × Fans) :=
  if !forThis && !n.isUp s.other then .error .sideDown
  else
    match index 32 b.zone with
    | none => .error .badZone
    | some z =>
      let e := n.zones[z]
      if !n.sideFits s b.takeover e then .error .wrongSide
      else if e.state = .free then
        match n.fans.reserve z (n.reserveSum z) with
        | none => .error .supplyShort
        | some F => .ok (z, F)
      else .ok (z, n.fans)

/-- The entry that enters BINDING (R155). -/
def Zone.enterBinding (e : Zone) (s : Side) (tag : Byte) (hasLocal : Bool) (wait : Nat) : Zone :=
  let e := match e.state with
    | .free => { e with boundBefore := false, equipped := hasLocal }
    | _ => { e with boundBefore := true, savedInputSide := some e.inputSide,
                    savedForward := some e.forward }
  { e with state := .binding, inputSide := s, forward := false, bindTag := tag,
           bindWait := Timer.seconds wait, lapseNote := none }

/-- The entry that becomes BOUND at the target of a BIND (R156). -/
def Zone.boundAtTarget (e : Zone) (s : Side) (tag : Byte) (hasLocal : Bool) : Zone :=
  { e with
    state := .bound, boundBefore := false, inputSide := s, forward := false, bindTag := tag,
    equipped := if e.state = .free then hasLocal else e.equipped, lapseNote := none }

/-- ZONE_TAKEOVER of a BOUND entry whose input side changes (R161). -/
def Node.reportTakeover (z : Fin 32) (s : Side) (old : Zone) (n : Node) : Node :=
  if old.state = .bound ∧ old.inputSide ≠ s then
    n.raise { kind := .zoneTakeover, object := z, severity := .info,
              detail := (n.side old.inputSide).neighbourId.getD 255 }
  else n

/-- The bind has passed the checks of an activating node (R155, R156). ZONE_TAKEOVER (R161) is raised before
the BIND_REPLY is offered, so before the TX_DROPPED of a reply that finds no room, an order that R156 and R161
do not state (DESIGN CHOICE, log entry 50). -/
def Node.bindPassed (s : Side) (forThis : Bool) (t : Telegram) (z : Fin 32) (F : Fans) (n : Node) :
    Node :=
  let old := n.zones[z]
  let here := n.hasLocal z
  let n := { n with fans := F }
  if forThis then
    let n := (n.modZone z fun e => e.boundAtTarget s t.tag here).reportTakeover z s old
    (n.sendTo s (bindReplyTelegram n t.tag z .ok)).presentZone
  else n.modZone z fun e => e.enterBinding s t.tag here n.params.bindWait

/-- A PATH-routed BIND is shown to the zone unit (R152). -/
def Node.bind (s : Side) (t : Telegram) (n : Node) : Node × Shown :=
  if !n.validId then (n, .pass)
  else
    match bindBody t.body with
    | none => (n, .endsHere)
    | some b =>
      let forThis := t.hop == t.target
      if forThis || decide (b.activating ≤ t.hop.toNat) then
        match n.bindChecks s forThis b with
        | .error o => (n.sendTo s (bindReplyTelegram n t.tag b.zone o), .endsHere)
        | .ok (z, F) => (n.bindPassed s forThis t z F, .pass)
      else (n, .pass)

/-! ### Undoing a bind (R158, R160) -/

/-- A bound-before entry returns to BOUND (R158). -/
def Zone.restored (e : Zone) : Zone :=
  { e with
    state := .bound, boundBefore := false, inputSide := e.savedInputSide.getD e.inputSide,
    forward := e.savedForward.getD e.forward, savedInputSide := none, savedForward := none,
    bindWait := none }

/-- A BINDING entry is undone by its bound-before value (R158). -/
def Node.undoBind (z : Fin 32) (n : Node) : Node :=
  if n.zones[z].boundBefore then n.modZone z Zone.restored else n.freeEntry z

/-- Expiry of a running bind-wait timer: the undoing, the lapse note and BIND_TIMEOUT (R160). -/
def Node.bindWaitExpired (z : Fin 32) (n : Node) : Node :=
  let e := n.zones[z]
  let n := n.undoBind z
  let n := n.modZone z fun x => { x with lapseNote := some (e.bindTag, e.inputSide.other) }
  n.raise { kind := .bindTimeout, object := z, severity := .info,
            detail := 256 * e.bindTag.toNat + flag e.boundBefore }

/-! ### BIND_REPLY (R157 to R159) -/

/-- The entry confirmed by a matching OK reply (R157). -/
def Zone.confirmed (e : Zone) : Zone :=
  { e with state := .bound, boundBefore := false, forward := true, savedInputSide := none,
           savedForward := none, bindWait := none }

/-- A matching OK reply; a FREE-before entry is presented as R156 states (R157). -/
def Node.confirmBind (z : Fin 32) (n : Node) : Node :=
  let before := n.zones[z].boundBefore
  let n := n.modZone z Zone.confirmed
  if before then n else n.presentZone

/-- The rewrite of an OK reply that meets a lapse note (R159). -/
def lapsedReply (n : Node) (zone : Byte) (t : Telegram) : Telegram :=
  { t with body := [zone, b8 (bindOutcomeCode .bindLapsed), n.idByte] }

/-- Whether a BIND_REPLY matches an entry (R157). -/
def Zone.matchesReply (e : Zone) (s : Side) (t : Telegram) : Bool :=
  e.state == .binding && e.bindTag == t.tag && s == e.inputSide.other

/-- A BIND_REPLY shown to the zone unit, and the reply as it passes on (R157 to R159). A node with an
invalid strap value lets it pass unchanged (R152). -/
def Node.bindReply (s : Side) (t : Telegram) (n : Node) : Node × Telegram :=
  if !n.validId then (n, t)
  else
    match t.body with
    | [zb, ob, _] =>
      match index 32 zb.toNat with
      | none => (n, t)
      | some z =>
        if 5 < ob.toNat then (n, t)
        else
          let e := n.zones[z]
          if e.matchesReply s t then
            (if ob = 0 then n.confirmBind z else n.undoBind z, t)
          else if e.lapseNote = some (t.tag, s) then
            (n.modZone z fun e => { e with lapseNote := none },
              if ob = 0 then lapsedReply n zb t else t)
          else (n, t)
    | _ => (n, t)

/-! ### UNBIND and TEARDOWN (R162, R163) -/

/-- The zone number and the activating hop of an UNBIND, if its body passes (R162). -/
def unbindBody (body : List Byte) : Option (Nat × Nat) :=
  match body with
  | [z, a] => if 1 ≤ a.toNat ∧ a.toNat ≤ 126 then some (z.toNat, a.toNat) else none
  | _ => none

/-- Any record is closed with ZONE_TORN_DOWN, and the entry enters FREE (R151, R162, R163). -/
def Node.tearEntry (z : Fin 32) (n : Node) : Node :=
  (n.closeRecord z (some .zoneTornDown)).freeEntry z

/-- A PATH-routed UNBIND is shown to the zone unit (R162; R152 for an invalid strap value). -/
def Node.unbind (s : Side) (t : Telegram) (n : Node) : Node × Shown :=
  if !n.validId then (n, .pass)
  else
    match unbindBody t.body with
    | none => (n, .endsHere)
    | some (zone, a) =>
      match index 32 zone with
      | none => (n, .pass)
      | some z =>
        let e := n.zones[z]
        if e.state = .bound ∧ e.inputSide = s then
          if t.hop.toNat + 1 = a then (n.modZone z fun e => { e with forward := false }, .pass)
          else if a ≤ t.hop.toNat then (n.tearEntry z, .pass)
          else (n, .pass)
        else (n, .pass)

/-- A TEARDOWN that reaches the zone unit (R163). -/
def Node.teardown (s : Side) (t : Telegram) (n : Node) : Node :=
  match t.body, index 32 t.target.toNat with
  | [], some z =>
    let e := n.zones[z]
    if e.state = .bound ∧ e.inputSide = s then
      (if e.forward then n.forward s t else n).tearEntry z
    else n
  | _, _ => n

end Sys2Proof.Machine
end

