-- ==== Sys2Proof/Machine/Sensors.lean ====
section
/-!
DEFINITION. The sensor front end and the measurement chain: loop supervision, calibration,
smoothing, dose and classification of one channel's turn, and the SAMPLE record (chapters 1 and 2).
-/

namespace Sys2Proof.Machine

/-! ### The converter (R1) -/

/-- The raw code of a loop current in nanoamperes: in proportion up to 24 mA, 65535 from there on (R1).
Rounding to the nearest code, upward at a half, reproduces the table of R1 (DEDUCED, log entry 38). -/
def converterCode (current : Nat) : Nat :=
  min 65535 ((current * 65535 + Config.fullScale / 2) / Config.fullScale)

/-! ### Loop supervision (R8 to R14) -/

/-- A code inside the limits; a code that equals a limit is in limit (R8). -/
def ChannelConfig.inLimit (c : ChannelConfig) (code : Nat) : Bool :=
  c.loopLow ≤ code && code ≤ c.loopHigh

/-- What supervision finds: the next state and counts, whether the code is to be calibrated, and
whether SENSOR_FAULT or SENSOR_RESTORED is raised. -/
structure Supervision where
  state : ChannelState
  holdCount : Nat
  restoreCount : Nat
  fresh : Bool
  faulted : Bool
  restored : Bool
  deriving DecidableEq, Repr

/-- An out-of-limit code in ACQUIRING or GOOD (R10, R11). -/
def superviseOut (loopHold : Nat) : Supervision :=
  if loopHold = 0 then ⟨.fault, 0, 0, false, true, false⟩
  else ⟨.held, 1, 0, false, false, false⟩

/-- The restore count after a code (R12, R13). -/
def Channel.nextRestore (c : Channel) (inLimit : Bool) : Nat :=
  if inLimit then c.restoreCount + 1 else 0

/-- Loop supervision of a channel that is not OFF (R10 to R14). -/
def Channel.supervise (c : Channel) (code : Nat) : Supervision :=
  let good := c.config.inLimit code
  let restore := c.nextRestore good
  match c.state with
  | .off => ⟨.off, 0, 0, false, false, false⟩
  | .acquiring => if good then ⟨.good, 0, 0, true, false, false⟩ else superviseOut c.config.loopHold
  | .good => if good then ⟨.good, 0, 0, true, false, false⟩ else superviseOut c.config.loopHold
  | .held =>
    if restore = 3 then ⟨.good, 0, 0, true, false, false⟩
    else if c.holdCount < c.config.loopHold then
      ⟨.held, c.holdCount + 1, restore, false, false, false⟩
    else ⟨.fault, 0, restore, false, true, false⟩
  | .fault =>
    if restore = 3 then ⟨.good, 0, 0, true, false, true⟩
    else ⟨.fault, 0, restore, false, false, false⟩

/-! ### Calibration (R16 to R19) -/

/-- Signed kinds (R4). -/
def ChannelKind.signed : ChannelKind → Bool
  | .velocity | .temperature | .dpressure => true
  | _ => false

/-- Bottom of a kind's engineering range (R4); the top is 32767 for every kind. -/
def ChannelKind.bottom (k : ChannelKind) : Int := if k.signed then -32768 else 0

/-- A calibrated value with its flags (R19). -/
structure Calibrated where
  value : Int
  sat : Bool
  compLost : Bool
  deriving DecidableEq, Repr

/-- The compensation term, or `none` when the source is unusable (R17). -/
def compensationTerm (channels : Vector Channel 8) (p : Compensation) : Option Int :=
  let s := channels[p.source]
  if s.usable .temperature then some (p.coeff * (s.published - p.ref)) else none

/-- Rounding to engineering counts (R18). -/
def roundCounts (acc : Int) : Int := (acc + 8192) / 16384

/-- A rounded result brought into the range of a kind (R19). -/
def ChannelKind.saturate (k : ChannelKind) (q : Int) : Int :=
  max k.bottom (min 32767 q)

/-- Calibration of a raw code (R16 to R19). -/
def calibrate (channels : Vector Channel 8) (cfg : ChannelConfig) (code : Nat) : Calibrated :=
  let product := ((code : Int) - cfg.offset) * cfg.gain
  let (term, lost) := match cfg.compensation with
    | none => ((0 : Int), false)
    | some p =>
      match compensationTerm channels p with
      | some e => (e, false)
      | none => (0, true)
  let q := roundCounts (product + term)
  { value := cfg.kind.saturate q, sat := q > 32767 || q < cfg.kind.bottom, compLost := lost }

/-! ### Smoothing, dose and TWA (R22 to R28) -/

/-- A value reaches the smoothing stage: an initialising one sets the state (R22), any other moves
it (R23); the published value is the state rounded (R24). -/
def Channel.smooth (c : Channel) (init : Bool) (v : Int) : Channel :=
  let s := if init then v * 256
    else c.smoothing + (v * 256 - c.smoothing) / (2 ^ c.config.k : Nat)
  { c with smoothing := s, published := (s + 128) / 256 }

/-- The TWA of 16 closed slots (R27). -/
def twaOf (m : Nat) (slots : List Nat) : Nat :=
  (slots.sum + 2 ^ (3 + m)) / 2 ^ (4 + m)

/-- The list of closed slots with a new one; at most 16 are kept, the oldest leaving (R25, R26). -/
def closeSlot (slots : List Nat) (sum : Nat) : List Nat :=
  (if slots.length < 16 then slots else slots.tail) ++ [sum]

/-- The channel's published value is added to an active dose ring (R25 to R27). -/
def Channel.addDose (c : Channel) : Channel :=
  if !c.config.dose then c
  else
    let sum := c.openSum + c.published.toNat
    let count := c.openCount + 1
    if count = 2 ^ c.config.m then
      let slots := closeSlot c.closedSlots sum
      { c with openSum := 0, openCount := 0, closedSlots := slots,
               twa := if slots.length = 16 then some (twaOf c.config.m slots) else c.twa }
    else { c with openSum := sum, openCount := count }

/-! ### Classification (R29 to R32) -/

/-- The level variable (R29). -/
def Channel.levelVariable (c : Channel) : Int :=
  match c.config.kind with
  | .co | .no2 => match c.twa with
    | some t => max c.published t
    | none => c.published
  | .velocity | .dpressure => magnitude c.published
  | .opacity | .temperature | .generic => c.published

/-- The threshold of a level above NORMAL (section 2.1). -/
def ChannelConfig.threshold (c : ChannelConfig) : Level → Nat
  | .normal => 0
  | .raised => c.t1
  | .high => c.t2
  | .critical => c.t3

/-- The rising candidate: the highest level whose threshold the variable reaches (R30). With the reset
thresholds a saturated level variable of 32767 reaches CRITICAL, though R20 says that such a channel
never leaves NORMAL: the two sentences conflict and R30 is followed (DESIGN CHOICE, log entry 39). -/
def ChannelConfig.candidate (c : ChannelConfig) (x : Int) : Level :=
  if (c.t3 : Int) ≤ x then .critical
  else if (c.t2 : Int) ≤ x then .high
  else if (c.t1 : Int) ≤ x then .raised
  else .normal

/-- The highest level below `l` whose threshold less the hysteresis the variable reaches, or NORMAL
(R30). -/
def ChannelConfig.fallTo (c : ChannelConfig) (l : Level) (x : Int) : Level :=
  match l with
  | .critical =>
    if (c.t2 : Int) - c.hysteresis ≤ x then .high
    else if (c.t1 : Int) - c.hysteresis ≤ x then .raised
    else .normal
  | .high => if (c.t1 : Int) - c.hysteresis ≤ x then .raised else .normal
  | .raised => .normal
  | .normal => .normal

/-- The level after a classification (R30). -/
def ChannelConfig.classify (c : ChannelConfig) (l : Level) (x : Int) : Level :=
  let rising := c.candidate x
  if levelCode l < levelCode rising then rising
  else if l ≠ .normal ∧ x < (c.threshold l : Int) - c.hysteresis then c.fallTo l x
  else l

/-- Severity of a LEVEL_CHANGE to a level (R32). -/
def levelSeverity : Level → Severity
  | .high | .critical => .alarm
  | .normal | .raised => .info

/-! ### One channel's turn (R3, R15, R21) -/

/-- The input a cycle result carries to the measurement chain (R15). -/
inductive ChainInput where
  | fresh (init : Bool) (v : Calibrated)
  | held (v : Int)
  | none
  deriving DecidableEq, Repr

/-- The cycle result's input and quality flags (R15). -/
def cycleResult (channels : Vector Channel 8) (c : Channel) (s : Supervision) (code : Nat) :
    ChainInput × Quality :=
  match s.state with
  | .good =>
    let v := calibrate channels c.config code
    (.fresh (!c.hasValue) v, { sat := v.sat, compLost := v.compLost })
  | .held => (if c.hasValue then .held c.published else .none, { held := true })
  | _ => (.none, { fault := true })

/-- Smoothing and dose for the input a cycle result carries (R21). -/
def Channel.chain (c : Channel) : ChainInput → Channel
  | .fresh init v => (({ c with hasValue := true } : Channel).smooth init v.value).addDose
  | .held v => (c.smooth false v).addDose
  | .none => c

/-- The turn of a channel that is not OFF: its record after the turn, and the reports of the turn in
order (R3). -/
def Channel.turn (channels : Vector Channel 8) (i : Fin 8) (c : Channel) (code : Nat) :
    Channel × List Report :=
  let s := c.supervise code
  let (input, quality) := cycleResult channels c s code
  let supervised : List Report :=
    if s.faulted then
      [{ kind := .sensorFault, object := i, severity := .alarm, detail := code }]
    else if s.restored then
      [{ kind := .sensorRestored, object := i, severity := .info, detail := code }]
    else []
  let c := { c with
    rawCode := code, state := s.state, holdCount := s.holdCount, restoreCount := s.restoreCount,
    quality := quality }
  match input with
  | .none => (c, supervised)
  | input =>
    let c := c.chain input
    let level := c.config.classify c.level c.levelVariable
    if level = c.level then (c, supervised)
    else
      ({ c with level := level, levelChanged := true },
        supervised ++ [{ kind := .levelChange, object := i, severity := levelSeverity level,
                         detail := levelCode level }])

/-! ### The fire-suspect condition (R33) -/

/-- Whether a channel's level is HIGH or CRITICAL. -/
def Channel.isHigh (c : Channel) : Bool := c.level == .high || c.level == .critical

/-- The channel indices in ascending order. -/
def channelIndices : List (Fin 8) := [0, 1, 2, 3, 4, 5, 6, 7]

/-- R33's first condition: a hot channel and an opaque one. -/
def Sensors.heatAndSmoke (s : Sensors) : Bool :=
  s.channels.any (fun c => c.config.kind == .temperature && c.isHigh) &&
    s.channels.any (fun c => c.config.kind == .opacity && c.isHigh)

/-- R33's second condition: a TEMPERATURE channel at CRITICAL. -/
def Sensors.criticalHeat (s : Sensors) : Bool :=
  s.channels.any fun c => c.config.kind == .temperature && c.level == .critical

/-- The lowest-numbered TEMPERATURE channel at HIGH or CRITICAL (R33). -/
def Sensors.hotChannel (s : Sensors) : Nat :=
  match channelIndices.find? fun i =>
      s.channels[i].config.kind == .temperature && s.channels[i].isHigh with
  | some i => i
  | none => 0

/-- The evaluation of the fire-suspect condition at the end of a cycle (R33). -/
def Node.checkFire (n : Node) : Node :=
  let a := n.sensors.heatAndSmoke
  let b := n.sensors.criticalHeat
  if (a || b) && !n.sensors.fireSuspect then
    let n := n.raise { kind := .fireSuspect, object := n.sensors.hotChannel, severity := .alarm,
                       detail := flag a + 2 * flag b }
    ({ n with sensors := { n.sensors with fireSuspect := true } }).refreshDoors
  else n

/-! ### Publication (R35 to R40) -/

/-- A channel is included in a SAMPLE (R38). -/
def Channel.included (c : Channel) : Bool := c.state != .off && c.state != .acquiring

/-- The record of a channel in a SAMPLE (R38, section 3.8). -/
def Channel.sampleRecord (i : Fin 8) (c : Channel) : List Byte :=
  put8 (16 * i + channelKindCode c.config.kind) ++
    put8 (64 * levelCode c.level + c.quality.bits c.twa.isSome) ++
    putS16 c.published ++
    match c.twa with
    | some t => put16 t
    | none => []

/-- The body of a SAMPLE: one record for each included channel, ascending (R38). -/
def Sensors.sampleBody (s : Sensors) : List Byte :=
  channelIndices.flatMap fun i =>
    if s.channels[i].included then s.channels[i].sampleRecord i else []

/-- The SAMPLE telegram (R39). -/
def sampleTelegram (n : Node) : Telegram :=
  { kind := .sample, cls := .sample, route := .bothEnds, hop := 0, target := 0,
    origin := n.idByte, tag := n.sensors.sampleSequence, body := n.sensors.sampleBody }

/-- A SAMPLE that has fallen due is built and sent, or is not kept (R37, R39, R40). -/
def Node.publish (n : Node) : Node :=
  if !n.held && n.validId && n.sensors.channels.any (·.included) then
    let t := sampleTelegram n
    ({ n with sensors :=
        { n.sensors with sampleSequence := n.sensors.sampleSequence + 1 } }).sendBoth t
  else n

/-- The publication counter at the end of a cycle, and the SAMPLE that is due then: scheduled (R35)
or for a change of level (R36). -/
def Node.publicationStep (n : Node) : Node :=
  let count := n.sensors.publicationCounter + 1
  let scheduled := n.params.publishInterval ≤ count
  let changed := n.sensors.channels.any (·.levelChanged)
  let n := { n with sensors :=
    { n.sensors with publicationCounter := if scheduled then 0 else count } }
  if scheduled || changed then n.publish else n

end Sys2Proof.Machine
end

