-- ==== Sys2Proof/Machine/Contribution.lean ====
section
/-!
DEFINITION. The contribution unit (chapter 4): readings, ageing, the demand and the demand stages;
and the acquisition cycle, which ties it to the front end and the measurement chain.
-/

namespace Sys2Proof.Machine

/-! ### Readings (R67 to R69) -/

/-- An entry takes a reading (R67, R68). -/
def Entry.take (e : Entry) (level : Level) (value : Int) : Entry :=
  { e with state := .live, level := level, value := value, age := 0 }

/-- Every entry that names this source and channel takes the reading. -/
def Contribution.read (t : Contribution) (source : Source) (channel : Nat) (level : Level)
    (value : Int) : Contribution :=
  { t with entries := t.entries.map fun e =>
      if e.source = source ∧ e.channel = channel then e.take level value else e }

/-- The LOCAL reading at the end of a channel's turn, unless its quality contains FAULT (R67,
R69). -/
def Node.localReading (i : Fin 8) (n : Node) : Node :=
  let c := n.channel i
  if c.quality.fault then n
  else { n with contribution := n.contribution.read .here i c.level c.published }

/-- A record of a passing SAMPLE (section 3.8). -/
structure SampleRecord where
  channel : Nat
  level : Level
  fault : Bool
  value : Int
  deriving DecidableEq, Repr

/-- Whether a sample record's kind code is a signed kind (R68). -/
def signedKindCode (k : Nat) : Bool := k == 3 || k == 4 || k == 5

/-- The fields of a record's first four bytes (R68). An unsigned value above 32767, which no NC48 sends,
is kept as R68 reads it, although the table of section 4.1 ends the range of a last value at 32767
(DESIGN CHOICE, log entry 40). -/
def sampleRecordOf (b0 b1 : Nat) (value : Nat) : SampleRecord :=
  { channel := b0 / 16, level := levelOf (b1 / 64), fault := b1 / 8 % 2 = 1,
    value := if signedKindCode (b0 % 16) then signed16 value else value }

/-- The records of a SAMPLE body in order; reading stops at a record that would extend past the
body (R68). -/
def sampleRecords : List Byte → List SampleRecord
  | b0 :: b1 :: b2 :: b3 :: rest =>
    let r := sampleRecordOf b0.toNat b1.toNat (b2.toNat * 256 + b3.toNat)
    if b1.toNat / 16 % 2 = 1 then
      match rest with
      | _ :: _ :: rest => r :: sampleRecords rest
      | _ => []
    else r :: sampleRecords rest
  | _ => []

/-- The records of a SAMPLE from a node are matched against the table (R68, R69). -/
def Contribution.readRecords (t : Contribution) (origin : Nat) (rs : List SampleRecord) :
    Contribution :=
  rs.foldl (fun t r =>
    if r.fault then t else t.read (.node origin) r.channel r.level r.value) t

/-- A passing SAMPLE is shown to the contribution unit (R68). One that carries this node's own ID as its
origin, which R57 and R64 say never passes the node, is read like any other, so that an entry that names
this node by its ID takes the reading (DESIGN CHOICE, log entry 44). -/
def Node.inspectSample (t : Telegram) (n : Node) : Node :=
  { n with contribution :=
      n.contribution.readRecords t.origin.toNat (sampleRecords t.body) }

/-! ### Ageing (R70) -/

/-- An entry after an ageing step. -/
def Entry.age1 (e : Entry) (stale lapse : Nat) : Entry :=
  if e.state = .empty then e
  else
    let age := min 65535 (e.age + 1)
    let state := if e.state = .live ∧ 10 * stale ≤ age then .held else e.state
    let state := if state = .held ∧ 10 * lapse ≤ age then .lapsed else state
    { e with age := age, state := state }

/-- Whether an ageing step takes an entry from LIVE to HELD, which raises STALE_SOURCE (R70). -/
def Entry.goesStale (e : Entry) (stale : Nat) : Bool :=
  e.state == .live && 10 * stale ≤ min 65535 (e.age + 1)

/-- The entry indices in ascending order. -/
def entryIndices : List (Fin 16) := [0, 1, 2, 3, 4, 5, 6, 7, 8, 9, 10, 11, 12, 13, 14, 15]

/-- The STALE_SOURCE reports of an ageing step (R70), in ascending order of the entries, an order that R70
does not state (DESIGN CHOICE, log entry 45). -/
def Contribution.staleReports (t : Contribution) (stale : Nat) : List Report :=
  entryIndices.filterMap fun i =>
    if t.entries[i].goesStale stale then
      some { kind := .staleSource, object := i, severity := .info,
             detail := 256 * sourceCode t.entries[i].source + t.entries[i].channel }
    else none

/-- The table after an ageing step (R70). -/
def Contribution.aged (t : Contribution) (stale lapse : Nat) : Contribution :=
  { t with entries := t.entries.map fun (e : Entry) => e.age1 stale lapse }

/-- The ageing step, every 100 ms (R70). -/
def Node.ageingStep (n : Node) : Node :=
  let p := n.params
  ({ n with contribution := n.contribution.aged p.staleAfter p.lapseAfter }).raiseAll
    (n.contribution.staleReports p.staleAfter)

/-! ### The demand (R72, R75) -/

/-- The step of a level in the demand sum (R72). -/
def levelStep : Level → Nat
  | .normal => 0
  | .raised => 1
  | .high => 2
  | .critical => 4

/-- What an entry counts toward the demand (R72). -/
def Entry.contribution (e : Entry) : Nat :=
  if e.state = .live ∨ e.state = .held then e.weight * levelStep e.level else 0

/-- The demand of a table (R72). -/
def demandOf (entries : Vector Entry 16) : Nat :=
  min 1000 (entries.toList.map Entry.contribution).sum

/-- A group's demand stage from a new demand (R75). -/
def GroupConfig.nextStage (c : GroupConfig) (stage demand : Nat) : Nat :=
  let rising := if c.d2 ≤ demand then 2 else if c.d1 ≤ demand then 1 else 0
  if stage < rising then rising
  else if stage = 2 ∧ demand < c.d2 - c.hd then (if c.d1 - c.hd ≤ demand then 1 else 0)
  else if stage = 1 ∧ demand < c.d1 - c.hd then 0
  else stage

/-- The demand computation at the end of a cycle, and the demand stages after it (R72, R75, R76). -/
def Node.computeDemand (n : Node) : Node :=
  let demand := demandOf n.contribution.entries
  ({ n with
      contribution := { n.contribution with demand := demand },
      setups := n.setups.map fun (s : GroupSetup) =>
        { s with demandStage := s.config.nextStage s.demandStage demand } }).presentGroups

/-! ### The acquisition cycle (R2, R3, R72) -/

/-- The turn of one channel: conversion of its loop (R1), front end and measurement chain, its LOCAL
reading, and the re-check of the groups that wait for its airflow (R3, R67, R104). An OFF channel has no
turn (R9). -/
def Node.channelTurn (currents : Vector Nat 8) (n : Node) (i : Fin 8) : Node :=
  let c := n.channel i
  if c.state = .off then n
  else
    let (c, reports) := c.turn n.sensors.channels i (converterCode currents[i])
    let n := { n with sensors := { n.sensors with channels := n.sensors.channels.set i c } }
    ((n.raiseAll reports).localReading i).withFans fun env r => r.recheckAll env i

/-- The level changed marks return to no (R32, R72). -/
def Node.clearMarks (n : Node) : Node :=
  { n with sensors := { n.sensors with
      channels := n.sensors.channels.map fun (c : Channel) => { c with levelChanged := false } } }

/-- The end-of-cycle work in its order (R72). -/
def Node.endOfCycle (n : Node) : Node :=
  n.checkFire.publicationStep.computeDemand.clearMarks

/-- An acquisition cycle: the sample-period timer is reloaded and the enabled channels take their
turns in ascending order (R2, R3). -/
def Node.acquire (currents : Vector Nat 8) (n : Node) : Node :=
  let n := { n with time :=
    { n.time with samplePeriod := 10 * n.params.samplePeriod } }
  (channelIndices.foldl (fun n i => n.channelTurn currents i) n).endOfCycle

end Sys2Proof.Machine
end

