-- ==== Sys2Proof/Machine/Inputs.lean ====
section
/-!
DEFINITION. The discrete input unit: sampling, debounce, first readings, the delivery of a level to
the block that owns the input, and the niche inputs (sections 7.1 and 7.2; legs under R86 to R88).
-/

namespace Sys2Proof.Machine

/-- The fixed roles of the 24 inputs (section 7.1). -/
inductive Role where
  | runFb (g : Fin 4) | tripFb (g : Fin 4) | localSwitch (g : Fin 4)
  | closed (d : Fin 2) | latched (d : Fin 2) | push (d : Fin 2)
  | legOk (l : Leg)
  | niche
  deriving DecidableEq, Repr

/-- The role of an input by its index (section 7.1, R117). -/
def role (i : Fin 24) : Role :=
  if h : i.val < 12 then
    let g : Fin 4 := ⟨i.val / 3, by omega⟩
    if i.val % 3 = 0 then .runFb g else if i.val % 3 = 1 then .tripFb g else .localSwitch g
  else if h : i.val < 18 then
    let d : Fin 2 := ⟨(i.val - 12) / 3, by omega⟩
    if i.val % 3 = 0 then .closed d else if i.val % 3 = 1 then .latched d else .push d
  else if i.val = 18 then .legOk .l1
  else if i.val = 19 then .legOk .l2
  else .niche

/-- Whether an edge matches an input's edge select (R120). -/
def EdgeSelect.matches : EdgeSelect → Bool → Bool
  | .rising, v => v
  | .falling, v => !v
  | .both, _ => true

/-- An edge of a NICHE_IN (R120, R121). A matching edge with action ALERT sets the niche-alert
latch, a SUSPECT cause of both doors (R124). -/
def Node.nicheEdge (i : Fin 24) (v : Bool) (n : Node) : Node :=
  let p := n.inputs[i]
  if p.edge.matches v then
    let alert := p.action == .alert
    let n := n.raise { kind := .nicheInput, object := i,
                       severity := if alert then .alarm else .info, detail := flag v }
    if alert then ({ n with nicheAlert := true }).refreshDoors else n
  else n

/-- An edge of a debounced level is delivered to the owning block (R117). -/
def Node.deliverEdge (i : Fin 24) (v : Bool) (n : Node) : Node :=
  match role i with
  | .runFb g => n.withFans fun env r => r.runFeedback env g v
  | .tripFb g => n.withFans fun env r => r.overload env g v
  | .localSwitch g => n.withFans fun env r => r.localSwitch env g v
  | .closed d => n.withDoor d fun env r => r.closedEdge env v
  | .latched d => n.withDoor d fun env r => r.latchedEdge env
  | .push d => n.withDoor d fun env r => r.pushEdge env v
  | .legOk l => n.withFans fun env r => if v then r.legRestored env l else r.legLost env l
  | .niche => n.nicheEdge i v

/-- A first reading is delivered to the owning block (R118, with R86, R114 and R134). A first reading of
RUN_FB or TRIP_FB does nothing, also where its group is already in STARTING or RUNNING: R118 speaks only
of groups that are still in STOPPING, and a first reading is not a contact that turns true (R107, R112;
DESIGN CHOICE, log entry 42). -/
def Node.deliverFirst (i : Fin 24) (v : Bool) (n : Node) : Node :=
  match role i with
  | .runFb _ => n
  | .tripFb _ => n
  | .localSwitch g => n.withFans fun env r => r.localSwitch env g v
  | .closed d => n.withDoor d fun env r => r.closedFirst env v
  | .latched d => n.withDoor d fun env r => r.latchedFirst env
  | .push _ => n
  | .legOk l => n.withFans fun env r => r.legFirst env l v
  | .niche => n

/-- The debounced level of an input becomes `v` with its count at 0 (R117, R118). -/
def Node.setLevel (i : Fin 24) (v : Bool) (n : Node) : Node :=
  { n with inputs := upd n.inputs i fun p => { p with level := some v, count := 0 } }

/-- The debounced level of an input changes to `v`; a level that is absent or already `v` does not
change (R117, log entry 13). -/
def Node.levelChange (i : Fin 24) (v : Bool) (n : Node) : Node :=
  if n.inputs[i].level = some !v then (n.setLevel i v).deliverEdge i v else n

/-- The debounced level of an input is established at `v`, if it is still absent (R118,
log entry 13). -/
def Node.firstReading (i : Fin 24) (v : Bool) (n : Node) : Node :=
  if n.inputs[i].level = none then (n.setLevel i v).deliverFirst i v else n

/-! ### The sampling strobe (R117, R118) -/

/-- The conditioned level of a pin (R117). -/
def Input.conditioned (p : Input) (pin : Bool) : Bool :=
  if p.inverted then !pin else pin

/-- The debounce count after a sample of conditioned level `c` (R117, R118). -/
def Input.nextCount (p : Input) (c : Bool) : Nat :=
  match p.level with
  | some v => if c = v then 0 else p.count + 1
  | none => if p.last = some c then p.count + 1 else 1

/-- An input after a sample, before a level that is due is taken. -/
def Input.sample (p : Input) (pin : Bool) : Input :=
  let c := p.conditioned pin
  { p with pin := pin, count := p.nextCount c, last := some c }

/-- One input takes its sample; when the count rises above the debounce value, the debounced level
takes the conditioned level at once (R117, R118). -/
def Node.sampleInput (pins : BitVec 24) (n : Node) (i : Fin 24) : Node :=
  let n : Node := { n with inputs := upd n.inputs i (·.sample (pins.getLsbD i)) }
  let p := n.inputs[i]
  let c := p.conditioned p.pin
  if p.debounce < p.count then
    match p.level with
    | some _ => n.levelChange i c
    | none => n.firstReading i c
  else n

/-- The input indices in ascending order. -/
def inputIndices : List (Fin 24) :=
  [0, 1, 2, 3, 4, 5, 6, 7, 8, 9, 10, 11, 12, 13, 14, 15, 16, 17, 18, 19, 20, 21, 22, 23]

/-- A sampling strobe: every pin is sampled; the levels that change are delivered in ascending
input order (R117, log entry 12). -/
def Node.strobe (pins : BitVec 24) (n : Node) : Node :=
  inputIndices.foldl (fun n i => n.sampleInput pins i) n

end Sys2Proof.Machine
end

