-- ==== Sys2Proof/Machine/Reports.lean ====
section
/-!
DEFINITION. The draining of the report queue into REPORT telegrams (section 10.3) and the report
record (section 3.8).
-/

namespace Sys2Proof.Machine

/-- The class queue the next REPORT would join (R168). -/
def ReportQueue.nextClass (q : ReportQueue) : TelegramClass :=
  if q.entries.any ReportEntry.isAlarm then .alarm else .control

/-- Whether a side lets a REPORT be made: it is not UP, or its class queue has room (R168). -/
def SideUnit.admits (u : SideUnit) (c : TelegramClass) : Bool :=
  u.state != .up || u.hasRoom c

/-- The conditions of a drain (R168). -/
def Node.drainReady (n : Node) : Bool :=
  !n.reports.entries.isEmpty && (n.isUp .west || n.isUp .east) &&
    n.line.west.admits n.reports.nextClass && n.line.east.admits n.reports.nextClass

/-- The list without its first `k` members that satisfy `p`. -/
def dropFirst {α : Type} (p : α → Bool) : Nat → List α → List α
  | 0, l => l
  | _ + 1, [] => []
  | k + 1, a :: l => if p a then dropFirst p k l else a :: dropFirst p (k + 1) l

/-- The entries a drain takes, in the order of their records (R169). -/
def ReportQueue.taken (q : ReportQueue) : List ReportEntry :=
  (q.entries.filter ReportEntry.isAlarm ++ q.entries.filter ReportEntry.isInfo).take 4

/-- The entries a drain leaves (R169). -/
def ReportQueue.left (q : ReportQueue) : List ReportEntry :=
  let alarms := (q.taken.filter ReportEntry.isAlarm).length
  let infos := (q.taken.filter ReportEntry.isInfo).length
  dropFirst ReportEntry.isInfo infos (dropFirst ReportEntry.isAlarm alarms q.entries)

/-- The record of a report entry (section 3.8). -/
def ReportEntry.record (e : ReportEntry) : List Byte :=
  put8 (128 * severityCode e.severity + reportKindCode e.kind) ++ put8 e.object ++ put8 e.count ++
    put16 e.detail ++ put32 e.first ++ put16 (min 65535 (e.latest - e.first))

/-- The REPORT telegram a drain makes (R169). -/
def reportTelegram (n : Node) : Telegram :=
  { kind := .report, cls := n.reports.nextClass, route := .bothEnds, hop := 0, target := 0,
    origin := n.idByte, tag := n.reports.sequence,
    body := putFlag n.reports.lost ++ n.reports.taken.flatMap ReportEntry.record }

/-- The queue after a drain (R169). -/
def ReportQueue.drained (q : ReportQueue) : ReportQueue :=
  { entries := q.left, lost := false, sequence := q.sequence + 1 }

/-- A drain tick (R168, R169). -/
def Node.drain (n : Node) : Node :=
  if n.drainReady then
    let t := reportTelegram n
    ({ n with reports := n.reports.drained }).sendBoth t
  else n

end Sys2Proof.Machine
end

