-- ==== Sys2Proof/Machine/Objects.lean ====
section
/-!
DEFINITION. The service objects as bytes (section 3.8 and the record tables of the chapters): what a
READ returns, and the configuration part a WRITE carries, with the range checks that need nothing
but the telegram.
-/

namespace Sys2Proof.Machine

/-! ### Field codings -/

/-- The remaining time of a timer, three bytes. -/
def putTimer (t : Timer) : List Byte := put24 t.remaining

/-- An optional index: presence byte and one byte. -/
def putIndex {n : Nat} (i : Option (Fin n)) : List Byte := putOption 1 (fun i => put8 i.val) i

/-- A target: stage, direction, authority. -/
def putTarget (t : Target) : List Byte :=
  put8 t.stage ++ put8 (directionCode t.direction) ++ put8 (authorityCode t.authority)

/-- A debounced level: 0, 1, or 255 when absent. -/
def putLevel : Option Bool → List Byte
  | some v => putFlag v
  | none => put8 255

/-- A closed byte range. -/
def inRange (lo hi v : Nat) : Bool := decide (lo ≤ v) && decide (v ≤ hi)

/-! ### Node parameters (section 11.3, R175) -/

/-- The parameters, seven bytes. -/
def Params.bytes (p : Params) : List Byte :=
  put8 p.samplePeriod ++ put8 p.publishInterval ++ put8 p.silenceLimit ++ put8 p.staleAfter ++
    put8 p.lapseAfter ++ put8 p.bindWait ++ put8 (flag p.permitWest + 2 * flag p.permitEast)

/-- The parameters a WRITE carries, if they pass R175. -/
def Params.parse (d : List Byte) : Option Params :=
  if inRange 1 255 (get8 d 0) && inRange 1 255 (get8 d 1) && inRange 10 200 (get8 d 2) &&
      inRange 1 255 (get8 d 3) && inRange 1 255 (get8 d 4) && decide (get8 d 3 ≤ get8 d 4) &&
      inRange 1 60 (get8 d 5) && inRange 1 3 (get8 d 6) then
    some { samplePeriod := get8 d 0, publishInterval := get8 d 1, silenceLimit := get8 d 2,
           staleAfter := get8 d 3, lapseAfter := get8 d 4, bindWait := get8 d 5,
           permitWest := get8 d 6 % 2 = 1, permitEast := 2 ≤ get8 d 6 }
  else none

/-- One side's part of the node status. -/
def SideUnit.statusBytes (u : SideUnit) : List Byte :=
  put8 (sideStateCode u.state) ++ put8 u.provingCount ++ put8 u.errorScore ++
    put8 (u.neighbourId.getD 255) ++
    put8 (match u.neighbourRunState with
      | some r => runStateCode r
      | none => 255)

/-- The holder of the start slot and its purpose; 255 and 0 when it is free (log entry 9). -/
def slotBytes : Option (Fin 4 × Purpose) → List Byte
  | some (g, p) => put8 g.val ++ put8 (purposeCode p)
  | none => put8 255 ++ put8 0

/-- A start-queue entry in the node status. -/
def StartEntry.bytes (e : StartEntry) : List Byte :=
  put8 e.group.val ++ put8 (purposeCode e.purpose) ++ put8 (authorityCode e.priority)

/-- The three output levels of a group: FWD, REV, HIGH. -/
def Fan.outputBytes (f : Fan) : List Byte := putFlag f.fwd ++ putFlag f.rev ++ putFlag f.high

/-- The three output levels of a door: HOLD, ASSIST, BEACON. -/
def Door.outputBytes (d : Door) : List Byte := putFlag d.hold ++ putFlag d.assist ++ putFlag d.beacon

/-- The object "node parameters": the parameters and the node status (section 11.3). -/
def Node.paramBytes (n : Node) : List Byte :=
  n.params.bytes ++ put8 n.strap.toNat ++ putFlag n.validId ++ put8 (runStateCode n.runState) ++
    put32 n.time.uptime ++ putFlag n.sensors.fireSuspect ++ putFlag n.nicheAlert ++
    put16 n.contribution.demand ++ n.line.west.statusBytes ++ n.line.east.statusBytes ++
    slotBytes n.fans.slot ++ put8 n.fans.queue.length ++ n.fans.queue.flatMap StartEntry.bytes ++
    n.fans.groups.toList.flatMap Fan.outputBytes ++ n.doors.toList.flatMap Door.outputBytes

/-! ### Channels (sections 1.3 and 2.1, R5, R20) -/

/-- The compensation field: a presence byte, then source, coefficient and reference. -/
def putCompensation (c : Option Compensation) : List Byte :=
  putOption 5 (fun p => put8 p.source.val ++ putS16 p.coeff ++ putS16 p.ref) c

/-- The configuration part of a channel, 28 bytes. -/
def ChannelConfig.bytes (c : ChannelConfig) : List Byte :=
  putFlag c.enabled ++ put8 (channelKindCode c.kind) ++ put16 c.offset ++ put16 c.gain ++
    putCompensation c.compensation ++ put16 c.loopLow ++ put16 c.loopHigh ++ put8 c.loopHold ++
    put8 c.k ++ putFlag c.dose ++ put8 c.m ++ put16 c.t1 ++ put16 c.t2 ++ put16 c.t3 ++
    put16 c.hysteresis

/-- The compensation a WRITE carries: `none` where its bytes name none, and the inner value absent or
present. -/
def getCompensation (d : List Byte) : Option (Option Compensation) :=
  match getFlag d 6 with
  | none => none
  | some false => some none
  | some true =>
    (index 8 (get8 d 7)).map fun s => some { source := s, coeff := getS16 d 8, ref := getS16 d 10 }

/-- The checks of R5 and R20 that the telegram alone decides. -/
def ChannelConfig.sound (c : ChannelConfig) : Bool :=
  decide (c.loopLow < c.loopHigh) &&
    (!c.dose || c.kind == .co || c.kind == .no2) &&
    decide (c.k ≤ 7) && decide (c.m ≤ 7) &&
    decide (c.t1 ≤ c.t2) && decide (c.t2 ≤ c.t3) && decide (c.t3 ≤ 32767) &&
    decide (c.hysteresis < c.t1)

/-- The configuration a WRITE carries, if its fields name values and pass those checks. -/
def ChannelConfig.parse (d : List Byte) : Option ChannelConfig :=
  match getFlag d 0, channelKindOf (get8 d 1), getCompensation d, getFlag d 18 with
  | some enabled, some kind, some compensation, some dose =>
    let c : ChannelConfig :=
      { enabled, kind, offset := get16 d 2, gain := get16 d 4, compensation,
        loopLow := get16 d 12, loopHigh := get16 d 14, loopHold := get8 d 16, k := get8 d 17, dose,
        m := get8 d 19, t1 := get16 d 20, t2 := get16 d 22, t3 := get16 d 24,
        hysteresis := get16 d 26 }
    if c.sound then some c else none
  | _, _, _, _ => none

/-- The closed slots: their number, then 16 sums of three bytes, oldest first. -/
def putSlots (slots : List Nat) : List Byte :=
  put8 slots.length ++ (List.range 16).flatMap fun i => put24 (slots.getD i 0)

/-- The object "channel": configuration, status fields, and state fields of Chapter 2. -/
def Channel.bytes (c : Channel) : List Byte :=
  c.config.bytes ++ put8 (channelStateCode c.state) ++ put16 c.rawCode ++ put8 c.holdCount ++
    put8 c.restoreCount ++ putFlag c.hasValue ++ putS24 c.smoothing ++ putS16 c.published ++
    put8 (c.quality.bits false) ++ put24 c.openSum ++ put8 c.openCount ++ putSlots c.closedSlots ++
    putOption 2 put16 c.twa ++ put8 (levelCode c.level) ++ putFlag c.levelChanged

/-! ### Contribution entries (section 4.1) -/

/-- The object "contribution entry". -/
def Entry.bytes (e : Entry) : List Byte :=
  put8 (sourceCode e.source) ++ put8 e.channel ++ put8 e.weight ++ put8 (entryStateCode e.state) ++
    put8 (levelCode e.level) ++ putS16 e.value ++ put16 e.age

/-- The entry an accepted WRITE leaves: the configuration written, the state part at its reset values
(R64, R65). -/
def Entry.parse (d : List Byte) : Option Entry :=
  match sourceOf (get8 d 0) with
  | some source =>
    if get8 d 1 ≤ 7 then some { source, channel := get8 d 1, weight := get8 d 2 } else none
  | none => none

/-! ### Groups (sections 5.2 and 6.1, R74, R94) -/

/-- The configuration part of a group, 29 bytes. -/
def GroupConfig.bytes (c : GroupConfig) : List Byte :=
  putIndex c.zone ++ putFlag c.highPresent ++ put16 c.i1 ++ put16 c.i2 ++ put8 c.startTime ++
    put16 c.coastTime ++ put16 c.runMin ++ put16 c.restMin ++ putIndex c.airflowChannel ++
    put16 c.windmillLimit ++ put16 c.windmillWait ++ put8 (directionCode c.defaultDirection) ++
    putFlag c.nearDoor ++ putFlag c.fireExempt ++ put16 c.d1 ++ put16 c.d2 ++ put16 c.hd

/-- The range checks of R94 and R74. -/
def GroupConfig.sound (c : GroupConfig) : Bool :=
  decide (c.i1 ≤ c.i2) && decide (c.i2 ≤ 2000) && inRange 1 60 c.startTime &&
    inRange 10 600 c.coastTime && decide (c.runMin ≤ 3600) && decide (c.restMin ≤ 3600) &&
    decide (c.windmillLimit ≤ 2000) && decide (c.windmillWait ≤ 600) &&
    inRange 1 1000 c.d1 && inRange 1 1000 c.d2 && decide (c.d1 ≤ c.d2) && decide (c.hd < c.d1)

/-- The configuration a WRITE carries, if its fields name values and pass those checks. -/
def GroupConfig.parse (d : List Byte) : Option GroupConfig :=
  match getOptionalIndex 32 d 0, getFlag d 2, getOptionalIndex 8 d 14, directionOf (get8 d 20),
      getFlag d 21, getFlag d 22 with
  | some zone, some highPresent, some airflowChannel, some defaultDirection, some nearDoor,
      some fireExempt =>
    let c : GroupConfig :=
      { zone, highPresent, i1 := get16 d 3, i2 := get16 d 5, startTime := get8 d 7,
        coastTime := get16 d 8, runMin := get16 d 10, restMin := get16 d 12, airflowChannel,
        windmillLimit := get16 d 16, windmillWait := get16 d 18, defaultDirection, nearDoor,
        fireExempt, d1 := get16 d 23, d2 := get16 d 25, hd := get16 d 27 }
    if c.sound then some c else none
  | _, _, _, _, _, _ => none

/-- An order target in service data, in the three bytes of a target (log entry 8). -/
def putOrderTarget (t : Option (Nat × Direction)) : List Byte :=
  putOption 3 (fun t => putTarget ⟨t.1, t.2, .normal⟩) t

/-- A group's supply record (section 5.2). -/
def Fan.supplyBytes (f : Fan) : List Byte :=
  putOption 1 (fun l => put8 (legCode l)) f.leg ++ put16 f.draw ++ putIndex f.reserveZone ++
    put16 f.reserveTaken

/-- The object "group": configuration, status fields, supply record. -/
def Node.groupBytes (n : Node) (g : Fin 4) : List Byte :=
  let f := n.fans.groups[g]
  n.setups[g].config.bytes ++ put8 (groupStateCode f.state) ++ put8 f.stage ++
    put8 (directionCode f.direction) ++
    putOption 1 (fun c => put8 (tripCauseCode c)) f.tripCause ++
    putOrderTarget n.setups[g].orderTarget ++ put8 n.setups[g].demandStage ++
    putTarget (n.effectiveTarget g) ++ putOption 3 putTarget f.pending ++
    putTimer f.start ++ putTimer f.stageUp ++ putTimer f.coast ++ putTimer f.runMin ++
    putTimer f.rest ++ putTimer f.windmill ++ f.supplyBytes

/-! ### Doors (section 7.3, R122) -/

/-- The configuration part of a door, 11 bytes. -/
def DoorConfig.bytes (c : DoorConfig) : List Byte :=
  putIndex c.zone ++ putIndex c.pressureChannel ++ put16 c.assistLimit ++ put8 c.assistTail ++
    put8 c.jamTime ++ put8 c.relatchDelay ++ put16 c.leftOpen

/-- The range checks of R122. -/
def DoorConfig.sound (c : DoorConfig) : Bool :=
  decide (c.assistLimit ≤ 32767) && decide (c.assistTail ≤ 10) && inRange 2 60 c.jamTime &&
    decide (c.relatchDelay ≤ 30) && inRange 10 600 c.leftOpen

/-- The configuration a WRITE carries, if its fields name values and pass those checks. -/
def DoorConfig.parse (d : List Byte) : Option DoorConfig :=
  match getOptionalIndex 32 d 0, getOptionalIndex 8 d 2 with
  | some zone, some pressureChannel =>
    let c : DoorConfig :=
      { zone, pressureChannel, assistLimit := get16 d 4, assistTail := get8 d 6,
        jamTime := get8 d 7, relatchDelay := get8 d 8, leftOpen := get16 d 9 }
    if c.sound then some c else none
  | _, _ => none

/-- The object "door": configuration and status fields. -/
def Door.bytes (d : Door) : List Byte :=
  d.config.bytes ++ put8 (doorStateCode d.state) ++ put8 d.causes.code ++ putFlag d.relatchWait ++
    d.outputBytes ++ putTimer d.jam ++ putTimer d.relatch ++ putTimer d.leftOpen ++
    putTimer d.assistTail ++ putTimer d.faultTimer

/-! ### Legs (section 5.1) -/

/-- The object "leg". -/
def LegRecord.bytes (r : LegRecord) : List Byte :=
  put16 r.capacity ++ putFlag r.available ++ put16 r.drawn ++ put16 r.reserved ++ put16 r.free

/-! ### Input profiles (section 7.1, R119) -/

/-- The object "input profile": the profile, five bytes, and the status. -/
def Input.bytes (p : Input) : List Byte :=
  put8 (pullCode p.pull) ++ putFlag p.inverted ++ put8 p.debounce ++ put8 (edgeCode p.edge) ++
    put8 (actionCode p.action) ++ putFlag p.pin ++ putLevel p.level ++ put16 p.count

/-- An input with the profile a WRITE carries, if every field carries one of its codes (R119). -/
def Input.write (p : Input) (d : List Byte) : Option Input :=
  match pullOf (get8 d 0), getFlag d 1, edgeOf (get8 d 3), actionOf (get8 d 4) with
  | some pull, some inverted, some edge, some action =>
    some { p with pull, inverted, debounce := get8 d 2, edge, action }
  | _, _, _, _ => none

/-! ### Zone entries (R136, section 9.1) -/

/-- The fields of an aggregation record in the order of section 8.4, ten bytes. -/
def Record.bytes (r : Record) : List Byte :=
  [r.tag] ++ put8 (sideCode r.side) ++
    put8 (match r.localOutcome with
      | some o => outcomeCode o
      | none => 255) ++
    put8 (outcomeCode r.forwardOutcome) ++ put8 r.applied ++ put8 r.failed ++ putFlag r.untracked ++
    putTimer r.ackWait

/-- The object "zone entry". -/
def Node.zoneBytes (n : Node) (z : Fin 32) : List Byte :=
  let e := n.zones[z]
  let r := n.fans.reserves[z]
  put8 (zoneStateCode e.state) ++ putFlag e.boundBefore ++ put8 (sideCode e.inputSide) ++
    putFlag e.forward ++ putFlag e.equipped ++ putOption 1 (fun l => put8 (legCode l)) r.leg ++
    put16 r.original ++ put16 r.remaining ++ [e.bindTag] ++ putTimer e.bindWait ++
    put8 (modeCode e.mode) ++ put8 (directionCode e.modeDirection) ++ put8 e.modeStage ++
    put8 (directionCode e.normalDirection) ++ put32 e.modeSince ++
    putOption 10 Record.bytes e.record ++
    put8 (match e.savedInputSide with
      | some s => sideCode s
      | none => 0) ++
    put8 (match e.savedForward with
      | some f => flag f
      | none => 0) ++
    putOption 2 (fun x => [x.1] ++ put8 (sideCode x.2)) e.lapseNote

/-! ### Report queue status (R171) -/

/-- The object "report queue status". -/
def Node.reportBytes (n : Node) : List Byte :=
  put8 n.reports.entries.length ++ put8 (n.reports.entries.filter ReportEntry.isAlarm).length ++
    putFlag n.reports.lost ++ [n.reports.sequence] ++ put32 n.time.uptime

/-! ### The objects by type and index (section 11.2) -/

/-- An object that a service request names. -/
inductive Object where
  | params
  | channel (i : Fin 8)
  | entry (i : Fin 16)
  | group (i : Fin 4)
  | door (i : Fin 2)
  | leg (l : Leg)
  | input (i : Fin 24)
  | zone (i : Fin 32)
  | reports
  deriving DecidableEq, Repr

/-- The leg of an index. -/
def legOf : Nat → Option Leg
  | 0 => some .l1
  | 1 => some .l2
  | _ => none

/-- The object of a type byte and an index byte (R174, check 3). -/
def objectOf (type idx : Nat) : Option Object :=
  match type with
  | 0 => if idx = 0 then some .params else none
  | 1 => (index 8 idx).map .channel
  | 2 => (index 16 idx).map .entry
  | 3 => (index 4 idx).map .group
  | 4 => (index 2 idx).map .door
  | 5 => (legOf idx).map .leg
  | 6 => (index 24 idx).map .input
  | 7 => (index 32 idx).map .zone
  | 8 => if idx = 0 then some .reports else none
  | _ => none

/-- The bytes of an object. -/
def Node.objectBytes (n : Node) : Object → List Byte
  | .params => n.paramBytes
  | .channel i => (n.channel i).bytes
  | .entry i => n.contribution.entries[i].bytes
  | .group i => n.groupBytes i
  | .door i => n.doors[i].bytes
  | .leg l => (n.fans.leg l).bytes
  | .input i => n.inputs[i].bytes
  | .zone i => n.zoneBytes i
  | .reports => n.reportBytes

/-- The length of an object's configuration part (R174, check 4); a zone entry and the report queue
status have none. -/
def Object.configLength : Object → Nat
  | .params => 7
  | .channel _ => 28
  | .entry _ => 3
  | .group _ => 29
  | .door _ => 11
  | .leg _ => 2
  | .input _ => 5
  | .zone _ => 0
  | .reports => 0

end Sys2Proof.Machine
end

