-- ==== Sys2Proof/Machine/Service.lean ====
section
/-!
DEFINITION. The service unit: orders, service requests and their replies, the start of operation and
the warm restart (chapter 11, with the write rules of the other chapters).
-/

namespace Sys2Proof.Machine

/-! ### Orders (R172, R173) -/

/-- Statuses of an ORDER_REPLY (section 3.8). -/
inductive OrderStatus where
  | ok | notOperational | noObject | badValue | groupUnavailable | denied
  deriving DecidableEq, Repr

/-- Code of an order status. -/
def orderStatusCode : OrderStatus → Nat
  | .ok => 0 | .notOperational => 1 | .noObject => 2 | .badValue => 3 | .groupUnavailable => 4
  | .denied => 5

/-- An order with its operands. -/
inductive Order where
  | fanSet (g : Fin 4) (stage : Nat) (direction : Direction)
  | fanRelease (g : Fin 4)
  | tripReset (g : Fin 4)
  | doorRelease (d : Fin 2) (on : Bool)
  | alertClear
  | publishNow
  deriving DecidableEq, Repr

/-- Checks 3, 4 and 5 of R172, which the body alone decides. -/
def orderOf (body : List Byte) : Except OrderStatus Order :=
  match body with
  | [o, obj, p, q] =>
    match o.toNat with
    | 0 =>
      match index 4 obj.toNat with
      | none => .error .noObject
      | some g =>
        match directionOf q.toNat with
        | some d => if p.toNat ≤ 2 then .ok (.fanSet g p.toNat d) else .error .badValue
        | none => .error .badValue
    | 1 =>
      match index 4 obj.toNat with
      | none => .error .noObject
      | some g => .ok (.fanRelease g)
    | 2 =>
      match index 4 obj.toNat with
      | none => .error .noObject
      | some g => .ok (.tripReset g)
    | 3 =>
      match index 2 obj.toNat with
      | none => .error .noObject
      | some d =>
        match unflag p.toNat with
        | some on => .ok (.doorRelease d on)
        | none => .error .badValue
    | 4 => .ok .alertClear
    | 5 => .ok .publishNow
    | _ => .error .badValue
  | _ => .error .badValue

/-- Check 6 of R172. -/
def Node.orderAvailable (n : Node) : Order → Bool
  | .tripReset g => n.fans.groups[g].state == .tripped
  | .fanSet _ _ _ => true
  | .fanRelease _ => true
  | .doorRelease _ _ => true
  | .alertClear => true
  | .publishNow => true

/-- The origin of a head end (R172, R174). -/
def fromHeadEnd (t : Telegram) : Bool := t.origin == 0 || t.origin == 127

/-- The checks of R172 in order: the first that fails gives the status. -/
def Node.orderChecks (n : Node) (t : Telegram) : Except OrderStatus Order :=
  if !fromHeadEnd t then .error .denied
  else if n.runState = .unconfigured then .error .notOperational
  else
    match orderOf t.body with
    | .error e => .error e
    | .ok o => if n.orderAvailable o then .ok o else .error .groupUnavailable

/-- The order target of a group is set or removed, and presented (R97, R173). -/
def Node.setOrderTarget (g : Fin 4) (o : Option (Nat × Direction)) (n : Node) : Node :=
  ({ n with setups := upd n.setups g fun s => { s with orderTarget := o } }).presentGroups

/-- ALERT_CLEAR (R34, R121). -/
def Node.clearAlerts (n : Node) : Node :=
  ({ n with sensors := { n.sensors with fireSuspect := false }, nicheAlert := false }).refreshDoors

/-- The effect of an accepted order (R173). -/
def Node.obey (o : Order) (n : Node) : Node :=
  match o with
  | .fanSet g stage d => n.setOrderTarget g (some (stage, d))
  | .fanRelease g => n.setOrderTarget g none
  | .tripReset g => n.withFans fun env r => r.tripReset env g
  | .doorRelease d on => n.withDoor d fun env r => r.setOrder env on
  | .alertClear => n.clearAlerts
  | .publishNow => n.publish

/-- The ORDER_REPLY to a telegram (R172). -/
def orderReply (n : Node) (t : Telegram) (s : OrderStatus) : Telegram :=
  { kind := .orderReply, cls := .control, route := .toEnd, hop := 0, target := 0,
    origin := n.idByte, tag := t.tag, body := [t.body.headD 255] ++ put8 (orderStatusCode s) }

/-- An ORDER delivered to the service unit (R172): its effect, then its reply (log entry 10). -/
def Node.order (s : Side) (t : Telegram) (n : Node) : Node :=
  match n.orderChecks t with
  | .error e => n.sendTo s (orderReply n t e)
  | .ok o => (n.obey o).sendTo s (orderReply n t .ok)

/-! ### Writes (R174, check 5) -/

/-- Statuses of a SERVICE_REPLY (section 3.8). -/
inductive ServiceStatus where
  | ok | noObject | badValue | inUse | denied
  deriving DecidableEq, Repr

/-- Code of a service status. -/
def serviceStatusCode : ServiceStatus → Nat
  | .ok => 0 | .noObject => 1 | .badValue => 2 | .inUse => 3 | .denied => 4

/-- A write of the node parameters (R175). -/
def Node.writeParams (d : List Byte) (n : Node) : Except ServiceStatus Node :=
  match Params.parse d with
  | none => .error .badValue
  | some p => .ok { n with params := p }

/-- The checks of R5 on the compensation source that need the other channels. -/
def Node.compensationFits (n : Node) (i : Fin 8) : Option Compensation → Bool
  | none => true
  | some p => p.source != i && (n.channel p.source).config.kind == .temperature

/-- A channel as an accepted configuration write leaves it (R6, log entry 23). -/
def Channel.written (c : ChannelConfig) : Channel :=
  { config := c, state := if c.enabled then .acquiring else .off }

/-- A write of a channel configuration (R5, R20, R6), with the airflow re-check of R104. -/
def Node.writeChannel (i : Fin 8) (d : List Byte) (n : Node) : Except ServiceStatus Node :=
  match ChannelConfig.parse d with
  | none => .error .badValue
  | some c =>
    if n.compensationFits i c.compensation then
      .ok (({ n with sensors := { n.sensors with
          channels := n.sensors.channels.set i (Channel.written c) } }).withFans
            fun env r => r.recheckAll env i)
    else .error .badValue

/-- Another entry holds the same source and channel (R64). -/
def Contribution.duplicate (t : Contribution) (i : Fin 16) (e : Entry) : Bool :=
  e.source != .none && entryIndices.any fun j =>
    j != i && t.entries[j].source == e.source && t.entries[j].channel == e.channel

/-- A write of a contribution entry (R64, R65). -/
def Node.writeEntry (i : Fin 16) (d : List Byte) (n : Node) : Except ServiceStatus Node :=
  match Entry.parse d with
  | none => .error .badValue
  | some e =>
    if n.contribution.duplicate i e then .error .badValue
    else .ok { n with contribution :=
      { n.contribution with entries := n.contribution.entries.set i e } }

/-- The airflow channel a group record names is configured with kind VELOCITY (R94). -/
def Node.airflowFits (n : Node) : Option (Fin 8) → Bool
  | none => true
  | some c => (n.channel c).config.kind == .velocity

/-- Whether an optional stage asks for running. -/
def asksRunning : Option Nat → Bool
  | none => false
  | some stage => decide (0 < stage)

/-- The group is not in OFF, or one of its three target sources asks for running (R94). -/
def Node.groupInUse (n : Node) (g : Fin 4) : Bool :=
  n.fans.groups[g].state != .off || asksRunning ((n.zoneTarget g).map (·.stage)) ||
    asksRunning (n.setups[g].orderTarget.map (·.1)) || asksRunning (some (n.setups[g].demandStage))

/-- The effect of an accepted group write (R95). -/
def Node.storeGroup (g : Fin 4) (c : GroupConfig) (n : Node) : Node :=
  let old := n.setups[g].config
  let n := { n with setups := upd n.setups g fun s => { s with config := c } }
  let n := if old.i1 = c.i1 ∧ old.i2 = c.i2 then n else n.examineQueue
  n.presentGroups

/-- A write of a group record (R94, R95). -/
def Node.writeGroup (g : Fin 4) (d : List Byte) (n : Node) : Except ServiceStatus Node :=
  match GroupConfig.parse d with
  | none => .error .badValue
  | some c =>
    if !n.airflowFits c.airflowChannel then .error .badValue
    else if n.groupInUse g then .error .inUse
    else .ok (n.storeGroup g c)

/-- The pressure channel a door record names is configured with kind DPRESSURE (R122). -/
def Node.pressureFits (n : Node) : Option (Fin 8) → Bool
  | none => true
  | some c => (n.channel c).config.kind == .dpressure

/-- A write of a door record (R122). -/
def Node.writeDoor (i : Fin 2) (d : List Byte) (n : Node) : Except ServiceStatus Node :=
  match DoorConfig.parse d with
  | none => .error .badValue
  | some c =>
    if n.pressureFits c.pressureChannel then
      .ok (({ n with doors := upd n.doors i fun x => { x with config := c } }).withDoor i
        DoorRun.refresh)
    else .error .badValue

/-- A write of a leg record (R78). -/
def Node.writeLeg (l : Leg) (d : List Byte) (n : Node) : Except ServiceStatus Node :=
  let r := n.fans.leg l
  if get16 d 0 ≤ 6000 ∧ r.drawn + r.reserved ≤ get16 d 0 then
    .ok ({ n with fans := n.fans.modLeg l fun r => { r with capacity := get16 d 0 } }).examineQueue
  else .error .badValue

/-- A write of an input profile (R119). -/
def Node.writeInput (i : Fin 24) (d : List Byte) (n : Node) : Except ServiceStatus Node :=
  match n.inputs[i].write d with
  | none => .error .badValue
  | some p => .ok { n with inputs := n.inputs.set i p }

/-- A write of an object whose data are long enough (R174, check 5). -/
def Node.writeObject (o : Object) (d : List Byte) (n : Node) : Except ServiceStatus Node :=
  match o with
  | .params => n.writeParams d
  | .channel i => n.writeChannel i d
  | .entry i => n.writeEntry i d
  | .group i => n.writeGroup i d
  | .door i => n.writeDoor i d
  | .leg l => n.writeLeg l d
  | .input i => n.writeInput i d
  | .zone _ => .error .denied
  | .reports => .error .denied

/-! ### START_OPERATION and RESTART (R176, R180) -/

/-- The start of operation: the groups are released and DEFAULT leaves the doors (R176, R99, R134). -/
def Node.startOperation (n : Node) : Node :=
  if n.runState = .unconfigured then
    (({ n with runState := .operational }).withFans FanRun.release).refreshDoors
  else n

/-- The zone indices in ascending order. -/
def zoneIndices : List (Fin 32) := List.finRange 32

/-- The warm restart, whole on every block at once (R180, with R7, R35, R39, R66, R73, R116, R121, R135,
R137, R164, R165, R175). -/
def Node.warmRestart (n : Node) : Node :=
  let fresh := Node.reset n.strap
  ({ n with
      runState := .unconfigured
      params := { permitWest := n.params.permitWest, permitEast := n.params.permitEast }
      sensors := fresh.sensors
      contribution := fresh.contribution
      setups := n.setups.map fun (s : GroupSetup) => { s with demandStage := 0 }
      fans := zoneIndices.foldl Fans.release n.fans
      nicheAlert := false
      zones := fresh.zones
      reports := {} }).refreshDoors

/-! ### Service requests (R174) -/

/-- What a request does: the node it leaves, its status and its data. `restart` marks the RESTART whose
effect follows its reply (R180). -/
structure ServiceResult where
  node : Node
  status : ServiceStatus
  data : List Byte := []
  restart : Bool := false

/-- A side is in the write-permit set. -/
def Params.permits (p : Params) : Side → Bool
  | .west => p.permitWest
  | .east => p.permitEast

/-- Check 2 of R174. -/
def Node.mayChange (n : Node) (s : Side) (t : Telegram) : Bool :=
  fromHeadEnd t && n.params.permits s

/-- READ (R174). -/
def Node.serviceRead (type idx part : Nat) (n : Node) : ServiceResult :=
  match objectOf type idx with
  | none => { node := n, status := .noObject }
  | some o =>
    let bytes := n.objectBytes o
    if 43 * part < bytes.length then
      { node := n, status := .ok, data := (bytes.drop (43 * part)).take 43 }
    else { node := n, status := .noObject }

/-- WRITE, after check 2 (R174). -/
def Node.serviceWrite (type idx part : Nat) (data : List Byte) (n : Node) : ServiceResult :=
  match objectOf type idx with
  | none => { node := n, status := .noObject }
  | some o =>
    if part ≠ 0 then { node := n, status := .noObject }
    else if data.length < o.configLength then { node := n, status := .badValue }
    else
      match n.writeObject o data with
      | .ok m => { node := m, status := .ok }
      | .error e => { node := n, status := e }

/-- The checks of R174 in order, and what the request does. -/
def Node.serviceResult (s : Side) (t : Telegram) (n : Node) : ServiceResult :=
  match t.body with
  | op :: type :: idx :: part :: data =>
    match op.toNat with
    | 0 => n.serviceRead type.toNat idx.toNat part.toNat
    | 1 =>
      if n.mayChange s t then n.serviceWrite type.toNat idx.toNat part.toNat data
      else { node := n, status := .denied }
    | 2 =>
      if n.mayChange s t then { node := n.startOperation, status := .ok }
      else { node := n, status := .denied }
    | 3 =>
      if n.mayChange s t then { node := n, status := .ok, restart := true }
      else { node := n, status := .denied }
    | _ => { node := n, status := .badValue }
  | _ => { node := n, status := .badValue }

/-- The echo of bytes 0 to 3 of a request, 0 for a byte it did not carry (R174). -/
def echo (body : List Byte) : List Byte :=
  [body.getD 0 0, body.getD 1 0, body.getD 2 0, body.getD 3 0]

/-- The SERVICE_REPLY (R174). -/
def serviceReply (n : Node) (t : Telegram) (s : ServiceStatus) (data : List Byte) : Telegram :=
  { kind := .serviceReply, cls := .service, route := .toEnd, hop := 0, target := 0,
    origin := n.idByte, tag := t.tag, body := echo t.body ++ put8 (serviceStatusCode s) ++ data }

/-- A SERVICE telegram delivered to the service unit (R174): its effect, then its reply
(log entry 10); RESTART acts after its reply has joined the queue (R180). Where that reply finds no room,
its TX_DROPPED is raised before the restart, which then empties the report queue (DESIGN CHOICE, log
entry 48). -/
def Node.service (s : Side) (t : Telegram) (n : Node) : Node :=
  let r := n.serviceResult s t
  let m := r.node.sendTo s (serviceReply n t r.status r.data)
  if r.restart then m.warmRestart else m

end Sys2Proof.Machine
end

