-- ==== Sys2Proof/Machine/Switch.lean ====
section
/-!
DEFINITION. The telegram switch (section 3.6) and the reception of a telegram on a side
(sections 3.1 and 3.2).
-/

namespace Sys2Proof.Machine

/-- A telegram with its hop count raised by one (R55). -/
def hopped (t : Telegram) : Telegram := { t with hop := t.hop + 1 }

/-- A telegram whose incremented hop count would exceed 126 is discarded, with a HOP_LIMIT notice where
R55 calls for one. -/
def Node.hopLimit (s : Side) (t : Telegram) (n : Node) : Node :=
  if t.route == .path && !isReply t.kind then n.notify s .hopLimit (hopped t) else n

/-- Delivery of a telegram consumed under R56 (R59); a BIND or UNBIND has acted when it was shown. -/
def Node.deliver (s : Side) (t : Telegram) (n : Node) : Node :=
  match t.kind with
  | .order => n.order s t
  | .service => n.service s t
  | .idle | .sample | .report | .orderReply | .zoneOrder | .zoneReply | .bind | .unbind
  | .bindReply | .teardown | .serviceReply | .pathNotice => n

/-- A PATH-routed telegram is consumed or forwarded (R56). -/
def Node.routePath (s : Side) (t : Telegram) (n : Node) : Node :=
  if t.hop == t.target && n.validId then n.deliver s t else n.forward s t

/-- A telegram the zone unit has been shown is routed if it may pass (R58). -/
def Node.routeShown (s : Side) (t : Telegram) (r : Node × Shown) : Node :=
  match r.2 with
  | .pass => r.1.routePath s t
  | .endsHere => r.1

/-- The switch's handling of a PATH-routed telegram (R56, R58). -/
def Node.switchPath (s : Side) (t : Telegram) (n : Node) : Node :=
  match t.kind with
  | .bind => Node.routeShown s t (n.bind s t)
  | .unbind => Node.routeShown s t (n.unbind s t)
  | .idle | .sample | .report | .order | .orderReply | .zoneOrder | .zoneReply | .bindReply
  | .teardown | .service | .serviceReply | .pathNotice => n.routePath s t

/-- The switch's handling of an END or BOTH_ENDS telegram (R57). -/
def Node.switchEnd (s : Side) (t : Telegram) (n : Node) : Node :=
  match t.kind with
  | .sample => (n.inspectSample t).forward s t
  | .bindReply => let r := n.bindReply s t; r.1.forward s r.2
  | .zoneReply => n.zoneReply s t
  | .idle | .report | .order | .orderReply | .zoneOrder | .bind | .unbind | .teardown | .service
  | .serviceReply | .pathNotice => n.forward s t

/-- The switch's handling of a ZONE-routed telegram (R58, R59). -/
def Node.switchZone (s : Side) (t : Telegram) (n : Node) : Node :=
  match t.kind with
  | .zoneOrder => n.zoneOrder s t
  | .teardown => n.teardown s t
  | .idle | .sample | .report | .order | .orderReply | .zoneReply | .bind | .unbind | .bindReply
  | .service | .serviceReply | .pathNotice => n

/-- The switch acts on a good telegram other than IDLE that an UP side hands to it (section 3.6). -/
def Node.switch (s : Side) (t : Telegram) (n : Node) : Node :=
  if 126 ≤ t.hop.toNat then n.hopLimit s t
  else
    match t.route with
    | .path => n.switchPath s (hopped t)
    | .toEnd => n.switchEnd s (hopped t)
    | .bothEnds => n.switchEnd s (hopped t)
    | .zone => n.switchZone s (hopped t)

/-- A good telegram received on an UP side (R42, R46). -/
def Node.receiveUp (s : Side) (t : Telegram) (n : Node) : Node :=
  let n := n.loadSilence s
  if t.kind = .idle then n.recordNeighbour s t.body else n.switch s t

/-- A good telegram received on a side (R42). -/
def Node.receiveGood (s : Side) (t : Telegram) (n : Node) : Node :=
  if n.isUp s then n.receiveUp s t else n.prove s

/-- A telegram with a correct length and CRC received on a side: its header fields are checked, and it
is good or bad (R41, log entry 6). -/
def Node.receive (s : Side) (t : Telegram) (n : Node) : Node :=
  if telegramGood t then n.receiveGood s t else n.receiveBad s

/-- A run of bytes received on a side between the two marks of the line coding (R41). -/
def Node.receiveBytes (s : Side) (bytes : List Byte) (n : Node) : Node :=
  match receiveCheck bytes with
  | some t => n.receiveGood s t
  | none => n.receiveBad s

end Sys2Proof.Machine
end

