-- ==== Sys2Proof/Machine/Timers.lean ====
section
/-!
DEFINITION. The timers as the timebase runs them: what the expiry of each running timer does to the
node, the uptime second, and the 10 ms tick, which is what the part does while no command waits
(sections 1.3 and 11.6; log entry 2).
-/

namespace Sys2Proof.Machine

/-! ### Timer expiries (log entry 1)

An expiry acts on a running timer, whatever time it has left; at an idle timer there is nothing to
expire and nothing changes. -/

/-- Expiry of a side's silence timer (R43). -/
def Node.expireSilence (s : Side) (n : Node) : Node :=
  if (n.side s).silence.isSome then n.silenceExpired s else n

/-- Expiry of a side's idle timer (R45). -/
def Node.expireIdle (s : Side) (n : Node) : Node :=
  if (n.side s).idle.isSome then n.idleExpired s else n

/-- Expiry of one timer of a group, if it runs. -/
def Node.expireFan (g : Fin 4) (running : Fan → Timer) (f : FanEnv → FanRun → FanRun) (n : Node) :
    Node :=
  if (running n.fans.groups[g]).isSome then n.withFans f else n

/-- Expiry of one timer of a door, if it runs. -/
def Node.expireDoor (d : Fin 2) (running : Door → Timer) (f : DoorEnv → DoorRun → DoorRun)
    (n : Node) : Node :=
  if (running n.doors[d]).isSome then n.withDoor d f else n

/-- Expiry of a group's start timer (R107). -/
def Node.expireStart (g : Fin 4) (n : Node) : Node :=
  n.expireFan g Fan.start fun env r => r.startExpired env g

/-- Expiry of a group's stage-up timer (R109). -/
def Node.expireStageUp (g : Fin 4) (n : Node) : Node :=
  n.expireFan g Fan.stageUp fun env r => r.stageUpExpired env g

/-- Expiry of a group's coast timer (R111, R112, R99). -/
def Node.expireCoast (g : Fin 4) (n : Node) : Node :=
  n.expireFan g Fan.coast fun env r => r.coastExpired env g

/-- Expiry of a group's rest timer (R102, R99). -/
def Node.expireRest (g : Fin 4) (n : Node) : Node :=
  n.expireFan g Fan.rest fun env r => r.restExpired env g

/-- Expiry of a group's run_min timer (R108, R99). -/
def Node.expireRunMin (g : Fin 4) (n : Node) : Node :=
  n.expireFan g Fan.runMin fun env r => r.runMinExpired env g

/-- Expiry of a group's windmill timer (R104, R99). -/
def Node.expireWindmill (g : Fin 4) (n : Node) : Node :=
  n.expireFan g Fan.windmill fun env r => r.windmillExpired env g

/-- Expiry of a door's jam timer (R127). -/
def Node.expireJam (d : Fin 2) (n : Node) : Node :=
  n.expireDoor d Door.jam fun env r => r.jamExpired env

/-- Expiry of a door's relatch timer (R128). -/
def Node.expireRelatch (d : Fin 2) (n : Node) : Node :=
  n.expireDoor d Door.relatch fun env r => r.relatchExpired env

/-- Expiry of a door's left-open timer (R129). -/
def Node.expireLeftOpen (d : Fin 2) (n : Node) : Node :=
  n.expireDoor d Door.leftOpen fun env r => r.leftOpenExpired env

/-- Expiry of a door's assist-tail timer (R129, R132). -/
def Node.expireAssistTail (d : Fin 2) (n : Node) : Node :=
  n.expireDoor d Door.assistTail fun _ r => r.assistTailExpired

/-- Expiry of a door's fault timer (R131). -/
def Node.expireFault (d : Fin 2) (n : Node) : Node :=
  n.expireDoor d Door.faultTimer fun env r => r.faultExpired env

/-- Expiry of a record's ack-wait timer (R149). -/
def Node.expireAckWait (z : Fin 32) (n : Node) : Node :=
  if n.zones[z].waiting then n.ackWaitExpired z else n

/-- Expiry of a BINDING entry's bind-wait timer (R160). -/
def Node.expireBindWait (z : Fin 32) (n : Node) : Node :=
  if n.zones[z].bindWait.isSome then n.bindWaitExpired z else n

/-! ### The uptime second (R179) -/

/-- The uptime count rises by 1 and stays at its greatest value. -/
def Timebase.raiseUptime (t : Timebase) : Timebase :=
  { t with uptime := min Config.maxUptime (t.uptime + 1) }

/-- A whole second as a command: the uptime count rises, and the tick count moves to the next second's
beginning. Drain ticks and ageing steps are taken from that count, so those in the ticks that are skipped
are not taken (DESIGN CHOICE, log entry 22). -/
def Node.uptimeSecond (n : Node) : Node :=
  { n with time := { n.time.raiseUptime with
      clock := (n.time.clock / Config.ticksPerSecond + 1) * Config.ticksPerSecond } }

/-! ### The 10 ms tick (log entry 2) -/

/-- The running timers of a side count down. -/
def SideUnit.tick (u : SideUnit) : SideUnit :=
  { u with silence := u.silence.tick, idle := u.idle.tick }

/-- The running timers of a group count down. -/
def Fan.tick (f : Fan) : Fan :=
  { f with start := f.start.tick, stageUp := f.stageUp.tick, coast := f.coast.tick,
           runMin := f.runMin.tick, rest := f.rest.tick, windmill := f.windmill.tick }

/-- The running timers of a door count down. -/
def Door.tick (d : Door) : Door :=
  { d with jam := d.jam.tick, relatch := d.relatch.tick, leftOpen := d.leftOpen.tick,
           assistTail := d.assistTail.tick, faultTimer := d.faultTimer.tick }

/-- The running timers of a zone entry count down. -/
def Zone.tick (z : Zone) : Zone :=
  { z with
    bindWait := z.bindWait.tick,
    record := z.record.map fun r => { r with ackWait := r.ackWait.tick } }

/-- The timebase's own counts: the tick count, the sample-period timer, which waits at 0 for the
acquisition cycle, and the decay interval. -/
def Timebase.tick (t : Timebase) : Timebase :=
  { t with clock := t.clock + 1, samplePeriod := t.samplePeriod - 1, decay := t.decay - 1 }

/-- Every timer of the node counts one tick. -/
def Node.countTick (n : Node) : Node :=
  { n with
    time := n.time.tick
    line := { west := n.line.west.tick, east := n.line.east.tick }
    fans := { n.fans with groups := n.fans.groups.map Fan.tick }
    doors := n.doors.map Door.tick
    zones := n.zones.map Zone.tick }

/-- An expiry that is due: the timer has counted to its end. -/
def whenDue (due : Bool) (f : Node → Node) (n : Node) : Node := if due then f n else n

/-- The decay steps of both sides, at intervals of 12 and 13 ticks in turn (R44). -/
def Node.decayTick (n : Node) : Node :=
  if n.time.decay = 0 then
    ({ n with time := { n.time with decay := if n.time.decayLong then 13 else 12,
                                    decayLong := !n.time.decayLong } }.decayScore
      .west).decayScore .east
  else n

/-- The due timers of a side. -/
def Node.sideTick (s : Side) (n : Node) : Node :=
  let n := whenDue (n.side s).silence.due (·.expireSilence s) n
  whenDue (n.side s).idle.due (·.expireIdle s) n

/-- The due timers of a group. -/
def Node.fanTick (n : Node) (g : Fin 4) : Node :=
  let n := whenDue n.fans.groups[g].start.due (·.expireStart g) n
  let n := whenDue n.fans.groups[g].stageUp.due (·.expireStageUp g) n
  let n := whenDue n.fans.groups[g].coast.due (·.expireCoast g) n
  let n := whenDue n.fans.groups[g].rest.due (·.expireRest g) n
  let n := whenDue n.fans.groups[g].runMin.due (·.expireRunMin g) n
  whenDue n.fans.groups[g].windmill.due (·.expireWindmill g) n

/-- The due timers of a door. -/
def Node.doorTick (n : Node) (d : Fin 2) : Node :=
  let n := whenDue n.doors[d].jam.due (·.expireJam d) n
  let n := whenDue n.doors[d].relatch.due (·.expireRelatch d) n
  let n := whenDue n.doors[d].leftOpen.due (·.expireLeftOpen d) n
  let n := whenDue n.doors[d].assistTail.due (·.expireAssistTail d) n
  whenDue n.doors[d].faultTimer.due (·.expireFault d) n

/-- Whether a record's ack-wait timer has counted to its end. -/
def Zone.ackDue (e : Zone) : Bool :=
  match e.record with
  | some r => r.ackWait.due
  | none => false

/-- The due timers of a zone entry. -/
def Node.zoneTick (n : Node) (z : Fin 32) : Node :=
  let n := whenDue n.zones[z].ackDue (·.expireAckWait z) n
  whenDue n.zones[z].bindWait.due (·.expireBindWait z) n

/-- One 10 ms tick of the timebase: every timer counts, the uptime second and the decay fall at their
times, the due expiries are taken in a fixed order, and every tenth tick brings the ageing step and
the drain tick (R44, R70, R168, R179). -/
def Node.tick (n : Node) : Node :=
  let n := n.countTick
  let n := if n.time.clock % Config.ticksPerSecond = 0 then
      { n with time := n.time.raiseUptime } else n
  let n := n.decayTick
  let n := (n.sideTick .west).sideTick .east
  let n := groupIndices.foldl Node.fanTick n
  let n := (n.doorTick 0).doorTick 1
  let n := zoneIndices.foldl Node.zoneTick n
  if n.time.clock % 10 = 0 then n.ageingStep.drain else n

end Sys2Proof.Machine
end

