-- ==== Sys2Proof/Machine/Act.lean ====
section
/-!
DEFINITION. How a command acts: on everything but the queue, and always with a next state
(log entry 31).
-/

namespace Sys2Proof.Machine

/-- The node of a state changed by a command; the queue stays. -/
def State.act (f : Node → Node) (s : State) : Host.Outcome State Fault Refusal :=
  .next { s with node := f s.node }

end Sys2Proof.Machine
end

