-- ==== Sys2Proof/Machine/DriveCommands.lean ====
section
/-!
DEFINITION. The commands that are expiries of the timers of fan groups and escape doors (sections 6.3 and 7.5).
-/

namespace Sys2Proof.Machine

/-- START_TIMER_EXPIRY (R107). -/
def execStartTimerExpiry (group : Fin 4) (s : State) : Host.Outcome State Fault Refusal :=
  s.act (Node.expireStart group)

/-- STAGE_UP_TIMER_EXPIRY (R109). -/
def execStageUpTimerExpiry (group : Fin 4) (s : State) : Host.Outcome State Fault Refusal :=
  s.act (Node.expireStageUp group)

/-- COAST_TIMER_EXPIRY (R99, R111, R112). -/
def execCoastTimerExpiry (group : Fin 4) (s : State) : Host.Outcome State Fault Refusal :=
  s.act (Node.expireCoast group)

/-- REST_TIMER_EXPIRY (R99, R102). -/
def execRestTimerExpiry (group : Fin 4) (s : State) : Host.Outcome State Fault Refusal :=
  s.act (Node.expireRest group)

/-- RUN_MIN_TIMER_EXPIRY (R99, R108). -/
def execRunMinTimerExpiry (group : Fin 4) (s : State) : Host.Outcome State Fault Refusal :=
  s.act (Node.expireRunMin group)

/-- WINDMILL_TIMER_EXPIRY (R99, R104). -/
def execWindmillTimerExpiry (group : Fin 4) (s : State) : Host.Outcome State Fault Refusal :=
  s.act (Node.expireWindmill group)

/-- JAM_TIMER_EXPIRY (R127). -/
def execJamTimerExpiry (door : Fin 2) (s : State) : Host.Outcome State Fault Refusal :=
  s.act (Node.expireJam door)

/-- RELATCH_TIMER_EXPIRY (R128). -/
def execRelatchTimerExpiry (door : Fin 2) (s : State) : Host.Outcome State Fault Refusal :=
  s.act (Node.expireRelatch door)

/-- LEFT_OPEN_TIMER_EXPIRY (R129). -/
def execLeftOpenTimerExpiry (door : Fin 2) (s : State) : Host.Outcome State Fault Refusal :=
  s.act (Node.expireLeftOpen door)

/-- ASSIST_TAIL_TIMER_EXPIRY (R129, R132). -/
def execAssistTailTimerExpiry (door : Fin 2) (s : State) : Host.Outcome State Fault Refusal :=
  s.act (Node.expireAssistTail door)

/-- FAULT_TIMER_EXPIRY (R131). -/
def execFaultTimerExpiry (door : Fin 2) (s : State) : Host.Outcome State Fault Refusal :=
  s.act (Node.expireFault door)

end Sys2Proof.Machine
end

