-- ==== Sys2Proof/Machine/LineCommands.lean ====
section
/-!
DEFINITION. The commands of the line: telegrams received on a side that no zone or service row names, and the side
timers and the transmitter (chapter 3).
-/

namespace Sys2Proof.Machine

/-- BAD_TELEGRAM (R41, R42, R44): a run of bytes received on a side. -/
def execBadTelegram (side : Side) (bytes : List Byte) (s : State) : Host.Outcome State Fault Refusal :=
  s.act (Node.receiveBytes side bytes)

/-- GOOD_TELEGRAM_PROVING (R42, R47, R177): a telegram of any kind and route received on a side. -/
def execGoodTelegramProving (side : Side) (telegram : Telegram) (s : State) : Host.Outcome State Fault Refusal :=
  s.act (Node.receive side telegram)

/-- IDLE_TELEGRAM (R46): an IDLE received on a side. -/
def execIdleTelegram (side : Side) (header : Header) (body : List Byte) (s : State) : Host.Outcome State Fault Refusal :=
  s.act (Node.receive side (header.telegram .idle .toEnd body))

/-- PATH_TELEGRAM (R55, R56, R59, R60): a PATH-routed telegram received on a side. -/
def execPathTelegram (side : Side) (kind : Kind) (header : Header) (body : List Byte) (s : State) : Host.Outcome State Fault Refusal :=
  s.act (Node.receive side (header.telegram kind .path body))

/-- END_TELEGRAM (R57): an END or BOTH_ENDS telegram received on a side. -/
def execEndTelegram (side : Side) (both : Bool) (kind : Kind) (header : Header)
    (body : List Byte) (s : State) : Host.Outcome State Fault Refusal :=
  s.act (Node.receive side (header.telegram kind (endRoute both) body))

/-- SAMPLE_TELEGRAM (R57, R68, R69): a SAMPLE received on a side. -/
def execSampleTelegram (side : Side) (both : Bool) (header : Header) (body : List Byte) (s : State) : Host.Outcome State Fault Refusal :=
  s.act (Node.receive side (header.telegram .sample (endRoute both) body))

/-- SILENCE_TIMER_EXPIRY (R43, R48, R177). -/
def execSilenceTimerExpiry (side : Side) (s : State) : Host.Outcome State Fault Refusal :=
  s.act (Node.expireSilence side)

/-- ERROR_SCORE_DECAY (R44). -/
def execErrorScoreDecay (side : Side) (s : State) : Host.Outcome State Fault Refusal :=
  s.act (Node.decayScore side)

/-- IDLE_TIMER_EXPIRY (R45). -/
def execIdleTimerExpiry (side : Side) (s : State) : Host.Outcome State Fault Refusal :=
  s.act (Node.expireIdle side)

/-- TRANSMISSION_COMPLETE (R51). -/
def execTransmissionComplete (side : Side) (s : State) : Host.Outcome State Fault Refusal :=
  s.act (Node.transmissionDone side)

end Sys2Proof.Machine
end

