-- ==== Sys2Proof/Machine/NodeCommands.lean ====
section
/-!
DEFINITION. The commands of the node as a whole: power-on, the acquisition cycle, the discrete inputs, and the
timebase's steps (chapters 1, 2, 4, 7, 10 and 11).
-/

namespace Sys2Proof.Machine

/-- Power-on reset: every block at its reset values with the strap value sampled (R178, R179). The count
of free choices goes on, so that the choices after it are as free as before (log entry 11). -/
def Node.restarted (straps : BitVec 7) (n : Node) : Node :=
  let fresh := Node.reset straps
  { fresh with fans := { fresh.fans with choices := n.fans.choices } }

/-- Power-on reset, with ID_INVALID at a node whose strap value is no valid ID (R178). -/
def Node.powerOn (straps : BitVec 7) (n : Node) : Node :=
  if validStrap straps then n.restarted straps
  else (n.restarted straps).raise
    { kind := .idInvalid, object := 0, severity := .alarm, detail := straps.toNat }

/-- POWER_ON_RESET (R178, R179), with the level of the seven strap pins. -/
def execPowerOnReset (straps : BitVec 7) (s : State) : Host.Outcome State Fault Refusal :=
  s.act (Node.powerOn straps)

/-- ACQUISITION_CYCLE (R1, R2, R3, R72), with the currents of the eight loops. -/
def execAcquisitionCycle (currents : Vector Nat 8) (s : State) : Host.Outcome State Fault Refusal :=
  s.act (Node.acquire currents)

/-- DEBOUNCED_LEVEL_CHANGE (R117). -/
def execDebouncedLevelChange (input : Fin 24) (level : Bool) (s : State) : Host.Outcome State Fault Refusal :=
  s.act (Node.levelChange input level)

/-- FIRST_READING (R118). -/
def execFirstReading (input : Fin 24) (level : Bool) (s : State) : Host.Outcome State Fault Refusal :=
  s.act (Node.firstReading input level)

/-- AGEING_STEP (R70). -/
def execAgeingStep (s : State) : Host.Outcome State Fault Refusal :=
  s.act Node.ageingStep

/-- DRAIN_TICK (R168, R169). -/
def execDrainTick (s : State) : Host.Outcome State Fault Refusal :=
  s.act Node.drain

/-- SAMPLING_STROBE (R117, R118), with the levels of the 24 pins, bit i for input i. -/
def execSamplingStrobe (pins : BitVec 24) (s : State) : Host.Outcome State Fault Refusal :=
  s.act (Node.strobe pins)

/-- UPTIME_SECOND (R179). -/
def execUptimeSecond (s : State) : Host.Outcome State Fault Refusal :=
  s.act Node.uptimeSecond

end Sys2Proof.Machine
end

