-- ==== Sys2Proof/Machine/ServiceCommands.lean ====
section
/-!
DEFINITION. The commands of the service unit: orders and service requests received on a side (chapter 11).
-/

namespace Sys2Proof.Machine

/-- The ORDER telegram of an order byte and its operands (section 3.8). -/
def orderTelegram (h : Header) (order object first second : Byte) : Telegram :=
  h.telegram .order .path [order, object, first, second]

/-- The SERVICE telegram of an operation and its operands (section 3.8). -/
def serviceTelegram (h : Header) (operation object index part : Byte) (data : List Byte) : Telegram :=
  h.telegram .service .path ([operation, object, index, part] ++ data)

/-- The object type byte of a write that is refused with DENIED (section 3.8). -/
def deniedType : DeniedObject → Byte
  | .zoneEntry => 7
  | .reportQueue => 8

/-- FAN_SET (R97, R172, R173): an ORDER with order byte 0 received on a side. -/
def execFanSet (side : Side) (header : Header) (object first second : Byte) (s : State) : Host.Outcome State Fault Refusal :=
  s.act (Node.receive side (orderTelegram header 0 object first second))

/-- FAN_RELEASE (R97, R172, R173): an ORDER with order byte 1 received on a side. -/
def execFanRelease (side : Side) (header : Header) (object first second : Byte) (s : State) : Host.Outcome State Fault Refusal :=
  s.act (Node.receive side (orderTelegram header 1 object first second))

/-- TRIP_RESET (R113, R172): an ORDER with order byte 2 received on a side. -/
def execTripReset (side : Side) (header : Header) (object first second : Byte) (s : State) : Host.Outcome State Fault Refusal :=
  s.act (Node.receive side (orderTelegram header 2 object first second))

/-- DOOR_RELEASE (R172, R173): an ORDER with order byte 3 received on a side. -/
def execDoorRelease (side : Side) (header : Header) (object first second : Byte) (s : State) : Host.Outcome State Fault Refusal :=
  s.act (Node.receive side (orderTelegram header 3 object first second))

/-- ALERT_CLEAR (R34, R121, R172): an ORDER with order byte 4 received on a side. -/
def execAlertClear (side : Side) (header : Header) (object first second : Byte) (s : State) : Host.Outcome State Fault Refusal :=
  s.act (Node.receive side (orderTelegram header 4 object first second))

/-- PUBLISH_NOW (R36, R172): an ORDER with order byte 5 received on a side. -/
def execPublishNow (side : Side) (header : Header) (object first second : Byte) (s : State) : Host.Outcome State Fault Refusal :=
  s.act (Node.receive side (orderTelegram header 5 object first second))

/-- READ (R174): a SERVICE telegram with operation 0 received on a side. -/
def execRead (side : Side) (header : Header) (object index part : Byte) (s : State) : Host.Outcome State Fault Refusal :=
  s.act (Node.receive side (serviceTelegram header 0 object index part []))

/-- START_OPERATION (R174, R176): a SERVICE telegram with operation 2 received on a side. -/
def execStartOperation (side : Side) (header : Header) (object index part : Byte) (s : State) : Host.Outcome State Fault Refusal :=
  s.act (Node.receive side (serviceTelegram header 2 object index part []))

/-- RESTART (R174, R180): a SERVICE telegram with operation 3 received on a side. -/
def execRestart (side : Side) (header : Header) (object index part : Byte) (s : State) : Host.Outcome State Fault Refusal :=
  s.act (Node.receive side (serviceTelegram header 3 object index part []))

/-- WRITE_NODE_PARAMETERS (R174, R175): a WRITE of object type 0 received on a side. -/
def execWriteNodeParameters (side : Side) (header : Header) (index part : Byte)
    (data : List Byte) (s : State) : Host.Outcome State Fault Refusal :=
  s.act (Node.receive side (serviceTelegram header 1 0 index part data))

/-- WRITE_CHANNEL (R5, R6, R20, R174): a WRITE of object type 1 received on a side. -/
def execWriteChannel (side : Side) (header : Header) (index part : Byte)
    (data : List Byte) (s : State) : Host.Outcome State Fault Refusal :=
  s.act (Node.receive side (serviceTelegram header 1 1 index part data))

/-- WRITE_CONTRIBUTION_ENTRY (R64, R65, R174): a WRITE of object type 2 received on a side. -/
def execWriteContributionEntry (side : Side) (header : Header) (index part : Byte)
    (data : List Byte) (s : State) : Host.Outcome State Fault Refusal :=
  s.act (Node.receive side (serviceTelegram header 1 2 index part data))

/-- WRITE_GROUP (R94, R95, R174): a WRITE of object type 3 received on a side. -/
def execWriteGroup (side : Side) (header : Header) (index part : Byte)
    (data : List Byte) (s : State) : Host.Outcome State Fault Refusal :=
  s.act (Node.receive side (serviceTelegram header 1 3 index part data))

/-- WRITE_DOOR (R122, R174): a WRITE of object type 4 received on a side. -/
def execWriteDoor (side : Side) (header : Header) (index part : Byte)
    (data : List Byte) (s : State) : Host.Outcome State Fault Refusal :=
  s.act (Node.receive side (serviceTelegram header 1 4 index part data))

/-- WRITE_LEG (R78, R174): a WRITE of object type 5 received on a side. -/
def execWriteLeg (side : Side) (header : Header) (index part : Byte)
    (data : List Byte) (s : State) : Host.Outcome State Fault Refusal :=
  s.act (Node.receive side (serviceTelegram header 1 5 index part data))

/-- WRITE_INPUT_PROFILE (R119, R174): a WRITE of object type 6 received on a side. -/
def execWriteInputProfile (side : Side) (header : Header) (index part : Byte)
    (data : List Byte) (s : State) : Host.Outcome State Fault Refusal :=
  s.act (Node.receive side (serviceTelegram header 1 6 index part data))

/-- WRITE_DENIED (R136, R171, R174): a WRITE of a zone entry or of the report queue status received on a
side. -/
def execWriteDenied (side : Side) (header : Header) (object : DeniedObject) (index part : Byte)
    (data : List Byte) (s : State) : Host.Outcome State Fault Refusal :=
  s.act (Node.receive side (serviceTelegram header 1 (deniedType object) index part data))

end Sys2Proof.Machine
end

