-- ==== Sys2Proof/Machine/ZoneCommands.lean ====
section
/-!
DEFINITION. The commands of the zone unit: zone telegrams received on a side, and the ack-wait and bind-wait timers
(chapters 8 and 9).
-/

namespace Sys2Proof.Machine

/-- ZONE_ORDER (R58, R139 to R144): a ZONE_ORDER received on a side. -/
def execZoneOrder (side : Side) (header : Header) (body : List Byte) (s : State) : Host.Outcome State Fault Refusal :=
  s.act (Node.receive side (header.telegram .zoneOrder .zone body))

/-- ZONE_REPLY (R57, R145 to R148): a ZONE_REPLY received on a side. -/
def execZoneReply (side : Side) (both : Bool) (header : Header) (body : List Byte) (s : State) : Host.Outcome State Fault Refusal :=
  s.act (Node.receive side (header.telegram .zoneReply (endRoute both) body))

/-- BIND (R58, R152 to R156, R161): a BIND received on a side. -/
def execBind (side : Side) (header : Header) (body : List Byte) (s : State) : Host.Outcome State Fault Refusal :=
  s.act (Node.receive side (header.telegram .bind .path body))

/-- BIND_REPLY (R57, R157 to R159): a BIND_REPLY received on a side. -/
def execBindReply (side : Side) (both : Bool) (header : Header) (body : List Byte) (s : State) : Host.Outcome State Fault Refusal :=
  s.act (Node.receive side (header.telegram .bindReply (endRoute both) body))

/-- UNBIND (R58, R162): an UNBIND received on a side. -/
def execUnbind (side : Side) (header : Header) (body : List Byte) (s : State) : Host.Outcome State Fault Refusal :=
  s.act (Node.receive side (header.telegram .unbind .path body))

/-- TEARDOWN (R58, R163): a TEARDOWN received on a side. -/
def execTeardown (side : Side) (header : Header) (body : List Byte) (s : State) : Host.Outcome State Fault Refusal :=
  s.act (Node.receive side (header.telegram .teardown .zone body))

/-- ACK_WAIT_TIMER_EXPIRY (R149). -/
def execAckWaitTimerExpiry (zone : Fin 32) (s : State) : Host.Outcome State Fault Refusal :=
  s.act (Node.expireAckWait zone)

/-- BIND_WAIT_TIMER_EXPIRY (R160). -/
def execBindWaitTimerExpiry (zone : Fin 32) (s : State) : Host.Outcome State Fault Refusal :=
  s.act (Node.expireBindWait zone)

end Sys2Proof.Machine
end

