-- ==== Sys2Proof/Machine/Dispatch.lean ====
section
/-!
DEFINITION. The meaning of a command: one arm for each row of spec/opcode_table.json.
-/

namespace Sys2Proof.Machine

def exec (i : Instr) (s : State) : Host.Outcome State Fault Refusal :=
  match i with
  | .powerOnReset straps => Sys2Proof.Machine.execPowerOnReset straps s
  | .acquisitionCycle currents => Sys2Proof.Machine.execAcquisitionCycle currents s
  | .badTelegram side bytes => Sys2Proof.Machine.execBadTelegram side bytes s
  | .goodTelegramProving side telegram => Sys2Proof.Machine.execGoodTelegramProving side telegram s
  | .idleTelegram side header body => Sys2Proof.Machine.execIdleTelegram side header body s
  | .pathTelegram side kind header body => Sys2Proof.Machine.execPathTelegram side kind header body s
  | .endTelegram side both kind header body => Sys2Proof.Machine.execEndTelegram side both kind header body s
  | .sampleTelegram side both header body => Sys2Proof.Machine.execSampleTelegram side both header body s
  | .zoneOrder side header body => Sys2Proof.Machine.execZoneOrder side header body s
  | .zoneReply side both header body => Sys2Proof.Machine.execZoneReply side both header body s
  | .bind side header body => Sys2Proof.Machine.execBind side header body s
  | .bindReply side both header body => Sys2Proof.Machine.execBindReply side both header body s
  | .unbind side header body => Sys2Proof.Machine.execUnbind side header body s
  | .teardown side header body => Sys2Proof.Machine.execTeardown side header body s
  | .fanSet side header object first second => Sys2Proof.Machine.execFanSet side header object first second s
  | .fanRelease side header object first second => Sys2Proof.Machine.execFanRelease side header object first second s
  | .tripReset side header object first second => Sys2Proof.Machine.execTripReset side header object first second s
  | .doorRelease side header object first second => Sys2Proof.Machine.execDoorRelease side header object first second s
  | .alertClear side header object first second => Sys2Proof.Machine.execAlertClear side header object first second s
  | .publishNow side header object first second => Sys2Proof.Machine.execPublishNow side header object first second s
  | .read side header object index part => Sys2Proof.Machine.execRead side header object index part s
  | .startOperation side header object index part => Sys2Proof.Machine.execStartOperation side header object index part s
  | .restart side header object index part => Sys2Proof.Machine.execRestart side header object index part s
  | .writeNodeParameters side header index part data => Sys2Proof.Machine.execWriteNodeParameters side header index part data s
  | .writeChannel side header index part data => Sys2Proof.Machine.execWriteChannel side header index part data s
  | .writeContributionEntry side header index part data => Sys2Proof.Machine.execWriteContributionEntry side header index part data s
  | .writeGroup side header index part data => Sys2Proof.Machine.execWriteGroup side header index part data s
  | .writeDoor side header index part data => Sys2Proof.Machine.execWriteDoor side header index part data s
  | .writeLeg side header index part data => Sys2Proof.Machine.execWriteLeg side header index part data s
  | .writeInputProfile side header index part data => Sys2Proof.Machine.execWriteInputProfile side header index part data s
  | .writeDenied side header object index part data => Sys2Proof.Machine.execWriteDenied side header object index part data s
  | .silenceTimerExpiry side => Sys2Proof.Machine.execSilenceTimerExpiry side s
  | .errorScoreDecay side => Sys2Proof.Machine.execErrorScoreDecay side s
  | .idleTimerExpiry side => Sys2Proof.Machine.execIdleTimerExpiry side s
  | .transmissionComplete side => Sys2Proof.Machine.execTransmissionComplete side s
  | .debouncedLevelChange input level => Sys2Proof.Machine.execDebouncedLevelChange input level s
  | .firstReading input level => Sys2Proof.Machine.execFirstReading input level s
  | .ageingStep => Sys2Proof.Machine.execAgeingStep s
  | .drainTick => Sys2Proof.Machine.execDrainTick s
  | .startTimerExpiry group => Sys2Proof.Machine.execStartTimerExpiry group s
  | .stageUpTimerExpiry group => Sys2Proof.Machine.execStageUpTimerExpiry group s
  | .coastTimerExpiry group => Sys2Proof.Machine.execCoastTimerExpiry group s
  | .restTimerExpiry group => Sys2Proof.Machine.execRestTimerExpiry group s
  | .runMinTimerExpiry group => Sys2Proof.Machine.execRunMinTimerExpiry group s
  | .windmillTimerExpiry group => Sys2Proof.Machine.execWindmillTimerExpiry group s
  | .jamTimerExpiry door => Sys2Proof.Machine.execJamTimerExpiry door s
  | .relatchTimerExpiry door => Sys2Proof.Machine.execRelatchTimerExpiry door s
  | .leftOpenTimerExpiry door => Sys2Proof.Machine.execLeftOpenTimerExpiry door s
  | .assistTailTimerExpiry door => Sys2Proof.Machine.execAssistTailTimerExpiry door s
  | .faultTimerExpiry door => Sys2Proof.Machine.execFaultTimerExpiry door s
  | .ackWaitTimerExpiry zone => Sys2Proof.Machine.execAckWaitTimerExpiry zone s
  | .bindWaitTimerExpiry zone => Sys2Proof.Machine.execBindWaitTimerExpiry zone s
  | .samplingStrobe pins => Sys2Proof.Machine.execSamplingStrobe pins s
  | .uptimeSecond => Sys2Proof.Machine.execUptimeSecond s

end Sys2Proof.Machine
end

