-- ==== Sys2Proof/WellFormed.lean ====
section
/-!
DEFINITION. Which commands are well formed: their telegrams pass the header and length checks of R41,
and each row brings the telegrams its name says.
-/

namespace Sys2Proof

open Sys2Proof.Machine

/-- The header fields a sender chose lie in the ranges of R41 for a route mode. -/
def Header.good (h : Header) (r : Route) : Bool :=
  decide (h.hop.toNat ≤ 126) && targetGood r h.target.toNat && decide (h.origin.toNat ≤ 127)

/-- A body fits a telegram (R41). -/
def bodyFits (body : List Byte) : Bool := decide (body.length ≤ 48)

/-- The data of a WRITE fit a SERVICE telegram (section 3.8). -/
def dataFit (data : List Byte) : Bool := decide (data.length ≤ 44)

/-- A kind that PATH_TELEGRAM brings: IDLE, BIND and UNBIND have rows of their own. -/
def pathKind : Kind → Bool
  | .idle | .bind | .unbind => false
  | .sample | .report | .order | .orderReply | .zoneOrder | .zoneReply | .bindReply | .teardown
  | .service | .serviceReply | .pathNotice => true

/-- A kind that END_TELEGRAM brings: IDLE, SAMPLE, ZONE_REPLY and BIND_REPLY have rows of their own. -/
def endKind : Kind → Bool
  | .idle | .sample | .zoneReply | .bindReply => false
  | .report | .order | .orderReply | .zoneOrder | .bind | .unbind | .teardown | .service
  | .serviceReply | .pathNotice => true

/-- The telegram a command brings, and the side it is received on. -/
def Instr.telegram : Instr → Option (Side × Telegram)
  | .goodTelegramProving s t => some (s, t)
  | .idleTelegram s h body => some (s, h.telegram .idle .toEnd body)
  | .pathTelegram s k h body => some (s, h.telegram k .path body)
  | .endTelegram s both k h body => some (s, h.telegram k (endRoute both) body)
  | .sampleTelegram s both h body => some (s, h.telegram .sample (endRoute both) body)
  | .zoneOrder s h body => some (s, h.telegram .zoneOrder .zone body)
  | .zoneReply s both h body => some (s, h.telegram .zoneReply (endRoute both) body)
  | .bind s h body => some (s, h.telegram .bind .path body)
  | .bindReply s both h body => some (s, h.telegram .bindReply (endRoute both) body)
  | .unbind s h body => some (s, h.telegram .unbind .path body)
  | .teardown s h body => some (s, h.telegram .teardown .zone body)
  | .fanSet s h o p q => some (s, orderTelegram h 0 o p q)
  | .fanRelease s h o p q => some (s, orderTelegram h 1 o p q)
  | .tripReset s h o p q => some (s, orderTelegram h 2 o p q)
  | .doorRelease s h o p q => some (s, orderTelegram h 3 o p q)
  | .alertClear s h o p q => some (s, orderTelegram h 4 o p q)
  | .publishNow s h o p q => some (s, orderTelegram h 5 o p q)
  | .read s h o i p => some (s, serviceTelegram h 0 o i p [])
  | .startOperation s h o i p => some (s, serviceTelegram h 2 o i p [])
  | .restart s h o i p => some (s, serviceTelegram h 3 o i p [])
  | .writeNodeParameters s h i p d => some (s, serviceTelegram h 1 0 i p d)
  | .writeChannel s h i p d => some (s, serviceTelegram h 1 1 i p d)
  | .writeContributionEntry s h i p d => some (s, serviceTelegram h 1 2 i p d)
  | .writeGroup s h i p d => some (s, serviceTelegram h 1 3 i p d)
  | .writeDoor s h i p d => some (s, serviceTelegram h 1 4 i p d)
  | .writeLeg s h i p d => some (s, serviceTelegram h 1 5 i p d)
  | .writeInputProfile s h i p d => some (s, serviceTelegram h 1 6 i p d)
  | .writeDenied s h o i p d => some (s, serviceTelegram h 1 (deniedType o) i p d)
  | .powerOnReset _ | .acquisitionCycle _ | .badTelegram _ _ | .silenceTimerExpiry _
  | .errorScoreDecay _ | .idleTimerExpiry _ | .transmissionComplete _
  | .debouncedLevelChange _ _ | .firstReading _ _ | .ageingStep | .drainTick
  | .startTimerExpiry _ | .stageUpTimerExpiry _ | .coastTimerExpiry _ | .restTimerExpiry _
  | .runMinTimerExpiry _ | .windmillTimerExpiry _ | .jamTimerExpiry _ | .relatchTimerExpiry _
  | .leftOpenTimerExpiry _ | .assistTailTimerExpiry _ | .faultTimerExpiry _
  | .ackWaitTimerExpiry _ | .bindWaitTimerExpiry _ | .samplingStrobe _ | .uptimeSecond => none

/-- Well-formedness of a command. -/
def Instr.wf : Instr → Bool
  | .badTelegram _ bytes => (receiveCheck bytes).isNone
  | .goodTelegramProving _ t => telegramGood t
  | .idleTelegram _ h body => h.good .toEnd && bodyFits body
  | .pathTelegram _ k h body => pathKind k && h.good .path && bodyFits body
  | .endTelegram _ both k h body => endKind k && h.good (endRoute both) && bodyFits body
  | .sampleTelegram _ both h body => h.good (endRoute both) && bodyFits body
  | .zoneOrder _ h body => h.good .zone && bodyFits body
  | .zoneReply _ both h body => h.good (endRoute both) && bodyFits body
  | .bind _ h body => h.good .path && bodyFits body
  | .bindReply _ both h body => h.good (endRoute both) && bodyFits body
  | .unbind _ h body => h.good .path && bodyFits body
  | .teardown _ h body => h.good .zone && bodyFits body
  | .fanSet _ h _ _ _ => h.good .path
  | .fanRelease _ h _ _ _ => h.good .path
  | .tripReset _ h _ _ _ => h.good .path
  | .doorRelease _ h _ _ _ => h.good .path
  | .alertClear _ h _ _ _ => h.good .path
  | .publishNow _ h _ _ _ => h.good .path
  | .read _ h _ _ _ => h.good .path
  | .startOperation _ h _ _ _ => h.good .path
  | .restart _ h _ _ _ => h.good .path
  | .writeNodeParameters _ h _ _ d => h.good .path && dataFit d
  | .writeChannel _ h _ _ d => h.good .path && dataFit d
  | .writeContributionEntry _ h _ _ d => h.good .path && dataFit d
  | .writeGroup _ h _ _ d => h.good .path && dataFit d
  | .writeDoor _ h _ _ d => h.good .path && dataFit d
  | .writeLeg _ h _ _ d => h.good .path && dataFit d
  | .writeInputProfile _ h _ _ d => h.good .path && dataFit d
  | .writeDenied _ h _ _ _ d => h.good .path && dataFit d
  | .powerOnReset _ | .acquisitionCycle _ | .silenceTimerExpiry _ | .errorScoreDecay _
  | .idleTimerExpiry _ | .transmissionComplete _ | .debouncedLevelChange _ _ | .firstReading _ _
  | .ageingStep | .drainTick | .startTimerExpiry _ | .stageUpTimerExpiry _ | .coastTimerExpiry _
  | .restTimerExpiry _ | .runMinTimerExpiry _ | .windmillTimerExpiry _ | .jamTimerExpiry _
  | .relatchTimerExpiry _ | .leftOpenTimerExpiry _ | .assistTailTimerExpiry _
  | .faultTimerExpiry _ | .ackWaitTimerExpiry _ | .bindWaitTimerExpiry _ | .samplingStrobe _
  | .uptimeSecond => true

end Sys2Proof
end

