-- ==== Sys2Proof/Safety.lean ====
section
/-!
DEFINITION. What counts as a sound state of each block, in the terms the manual uses: the properties
that its rules promise of every moment, with the bookkeeping that makes each of them survive a step.
-/

namespace Sys2Proof.Machine

/-! ### The line (R42 to R45, R48, R50, R51) -/

/-- A side unit is sound: the counts lie in their ranges, the silence timer runs outside DOWN alone, a
side that is not UP holds no telegram and sends nothing but IDLE, every queue is within its capacity,
and a free transmitter leaves no telegram waiting and has its idle timer running. -/
abbrev SideUnit.Sound (u : SideUnit) : Prop :=
  u.provingCount ≤ 3 ∧ u.errorScore ≤ 8 ∧ (u.state ≠ .proving → u.provingCount = 0) ∧
    (u.silence.isSome = true ↔ u.state ≠ .down) ∧
    (u.state ≠ .up → u.alarm = [] ∧ u.control = [] ∧ u.sample = [] ∧ u.service = []) ∧
    (u.state ≠ .up → u.cutOff = none) ∧
    u.alarm.length ≤ 6 ∧ u.control.length ≤ 6 ∧ u.sample.length ≤ 12 ∧ u.service.length ≤ 4 ∧
    (u.transmitting = none →
      u.alarm = [] ∧ u.control = [] ∧ u.sample = [] ∧ u.service = [] ∧ u.idle.isSome = true)

/-- Both side units are sound. -/
abbrev Line.Sound (l : Line) : Prop := l.west.Sound ∧ l.east.Sound

/-! ### The report queue (R165, R166) -/

/-- What a report entry is matched by (R166). -/
def ReportEntry.key (e : ReportEntry) : ReportKind × Nat := (e.kind, e.object)

/-- At most 16 entries, never two with the same kind and object, repeat counts 1 to 255 (R165, R166). -/
abbrev ReportQueue.Sound (q : ReportQueue) : Prop :=
  q.entries.length ≤ 16 ∧ (q.entries.map ReportEntry.key).Nodup ∧
    ∀ e ∈ q.entries, 1 ≤ e.count ∧ e.count ≤ 255

/-! ### The doors (R125 to R134) -/

/-- A door is sound: HOLD follows the state and the relatch wait (R125), the beacon follows the causes
and OPEN (R133), and each timer and ASSIST belong to the states that section 7.5 gives them. That no
relatch timer runs in relatch wait is, for a SECURED door that has lost its seat, the model's choice (log
entry 47). -/
abbrev Door.Sound (d : Door) : Prop :=
  (d.hold = true ↔ d.state = .secured ∨ (d.state = .released ∧ d.relatchWait = true)) ∧
    (d.beacon = true ↔ d.causes.zone = true ∨ d.causes.suspect = true ∨ d.state = .opened) ∧
    (d.state = .secured → d.causes.isEmpty = true) ∧
    (d.relatchWait = true → d.state = .released ∧ d.causes.isEmpty = true ∧ d.relatch = none) ∧
    (d.relatch.isSome = true → d.state = .released ∧ d.causes.isEmpty = true) ∧
    (d.jam.isSome = true → d.state = .released ∧ d.causes.request = true) ∧
    (d.leftOpen.isSome = true → d.state = .opened) ∧
    (d.assistTail.isSome = true → d.state = .opened) ∧
    (d.assist = true → (d.state = .released ∧ d.causes.request = true) ∨
      (d.state = .opened ∧ d.assistTail.isSome = true)) ∧
    (d.state = .fault → d.causes.dflt = true ∧ d.faultTimer = none)

/-! ### The groups and the start slot (R84, R89, R92, R100, section 6.3) -/

/-- A group that is STARTING or RUNNING. -/
def Fan.driven (f : Fan) : Bool := f.state == .starting || f.state == .running

/-- A group machine is sound: its outputs and its draw follow its state (R84, R100), it holds a trip
cause in TRIPPED alone, and its start, stage-up, run_min, coast and windmill timers run in the states
of section 6.3. -/
abbrev Fan.Sound (f : Fan) : Prop :=
  (f.driven = true →
    (f.fwd = true ↔ f.direction = .eastward) ∧ (f.rev = true ↔ f.direction = .westward) ∧
      (f.high = true ↔ f.stage = 2) ∧ f.stage ≤ 2 ∧ f.leg.isSome = true) ∧
    (f.driven = false →
      f.fwd = false ∧ f.rev = false ∧ f.high = false ∧ f.stage = 0 ∧ f.leg = none ∧ f.draw = 0 ∧
        f.reserveZone = none ∧ f.reserveTaken = 0) ∧
    (f.tripCause.isSome = true ↔ f.state = .tripped) ∧
    (f.start.isSome = true → f.state = .starting) ∧
    (f.stageUp.isSome = true → f.state = .running) ∧
    (f.runMin.isSome = true → f.state = .running) ∧
    (f.coast.isSome = true → f.state = .stopping ∨ f.state = .tripped) ∧
    (f.windmill.isSome = true → f.state = .windmillWait)

/-- An entry of the start queue fits its group: START while QUEUED, STAGE_UP while RUNNING at stage 1
(R89). -/
def Fans.entryFits (F : Fans) (e : StartEntry) : Bool :=
  match e.purpose with
  | .start => F.groups[e.group].state == .queued
  | .stageUp => F.groups[e.group].state == .running && F.groups[e.group].stage == 1

/-- Behind a NORMAL entry of the start queue stand NORMAL entries alone (R89). -/
def Fans.firesFirst (F : Fans) : Bool :=
  decide (F.queue.Pairwise fun a b => a.priority = .normal → b.priority = .normal)

/-- A holder of the start slot fits its purpose (R92). -/
def Fans.slotFits (F : Fans) (h : Fin 4 × Purpose) : Bool :=
  match h.2 with
  | .start => F.groups[h.1].state == .starting
  | .stageUp => F.groups[h.1].state == .running

/-- The groups, the start queue and the start slot are sound: every group is, the queue holds one entry
for a group at most, each fits its group, no FIRE entry stands behind a NORMAL one (R89), the slot's holder
fits, and a STARTING group holds the slot (R92). -/
abbrev Fans.Sound (F : Fans) : Prop :=
  (∀ g : Fin 4, F.groups[g].Sound) ∧
    (F.queue.map (·.group)).Nodup ∧ (∀ e ∈ F.queue, F.entryFits e = true) ∧
    F.firesFirst = true ∧
    (∀ h ∈ F.slot.toList, F.slotFits h = true) ∧
    (∀ g : Fin 4, F.groups[g].state = .starting → F.slot = some (g, .start))

/-! ### The leg accounts (R77) -/

/-- The draws of the groups on a leg. -/
def Fans.drawsOn (F : Fans) (l : Leg) : Nat :=
  (groupIndices.map fun g => if F.groups[g].leg = some l then F.groups[g].draw else 0).sum

/-- The remaining reserves of the zone entries on a leg. -/
def Fans.reservesOn (F : Fans) (l : Leg) : Nat :=
  (zoneIndices.map fun z => if F.reserves[z].leg = some l then F.reserves[z].remaining else 0).sum

/-- The account of a leg balances (R77). -/
abbrev Fans.Balanced (F : Fans) (l : Leg) : Prop :=
  (F.leg l).drawn = F.drawsOn l ∧ (F.leg l).reserved = F.reservesOn l ∧
    (F.leg l).drawn + (F.leg l).reserved ≤ (F.leg l).capacity

/-! ### The zone entries (R136, sections 8.4 and 9.1) -/

/-- A zone entry with its reserve is sound: a FREE entry has its FREE values and no reserve, forward
stands in a BOUND entry alone, the saved values and the bind-wait timer in a BINDING one, and an
aggregation record waits for a reply in an entry that is BOUND or was BOUND before (R136, R149,
R151). -/
abbrev Zone.Sound (e : Zone) (r : Reserve) : Prop :=
  (e.state = .free → e = e.freed ∧ r = {}) ∧
    (e.forward = true → e.state = .bound) ∧
    (e.savedInputSide.isSome = true ↔ e.state = .binding ∧ e.boundBefore = true) ∧
    (e.savedForward.isSome = true ↔ e.state = .binding ∧ e.boundBefore = true) ∧
    (e.bindWait.isSome = true → e.state = .binding) ∧
    (e.record.isSome = true → e.active = true ∧ e.waiting = true)

/-- Every zone entry is sound. -/
abbrev Node.ZonesSound (n : Node) : Prop :=
  ∀ z : Fin 32, (n.zones[z]).Sound (n.fans.reserves[z])

/-- Both doors are sound. -/
abbrev Node.DoorsSound (n : Node) : Prop := ∀ d : Fin 2, (n.doors[d]).Sound

/-! ### Stages and targets (R75, R97, R98, R101, R138) -/

/-- Every stage that a target can carry lies from 0 to 2: the targets last presented to the groups, their
pending targets, the order targets and demand stages, and the mode stages of the zones (sections 6.1 and
8.1). -/
abbrev Node.StagesSound (n : Node) : Prop :=
  (∀ g : Fin 4, n.fans.groups[g].presented.stage ≤ 2 ∧
    (∀ t ∈ n.fans.groups[g].pending.toList, t.stage ≤ 2) ∧ n.setups[g].demandStage ≤ 2 ∧
    ∀ t ∈ n.setups[g].orderTarget.toList, t.1 ≤ 2) ∧
    ∀ z : Fin 32, n.zones[z].modeStage ≤ 2

/-- The targets of a group are in step: a pending target stands in OFF, STARTING, RUNNING and STOPPING
alone (R101), and outside the hold the target last presented is the effective target and a pending
target is that one (R98). -/
def Node.targetsFit (n : Node) (g : Fin 4) : Bool :=
  let f := n.fans.groups[g]
  (f.pending.isNone || f.state == .off || f.state == .starting || f.state == .running ||
    f.state == .stopping) &&
    (n.held || (f.presented == n.effectiveTarget g && f.pending.all (· == f.presented)))

/-! ### The supply account of the node (R77 to R85) -/

/-- The draw of a group follows its stage, its configuration passes I1 ≤ I2 (R94), and no more of its draw
is converted reserve than it draws (R81, R83). -/
def Node.drawFits (n : Node) (g : Fin 4) : Bool :=
  let f := n.fans.groups[g]
  let c := n.setups[g].config
  decide (c.i1 ≤ c.i2) && decide (f.reserveTaken ≤ f.draw) &&
    (!f.driven || (decide (f.draw = c.current f.stage) && (f.stage != 2 || c.highPresent)))

/-- An entry of the start queue asks for the current of its purpose: that of the target its group acts on,
or I2 − I1 of a group with HIGH present (R89, R105, R109). -/
def Node.entryCurrent (n : Node) (e : StartEntry) : Bool :=
  let c := n.setups[e.group].config
  match e.purpose with
  | .start => decide (e.current = c.current n.fans.groups[e.group].presented.stage)
  | .stageUp => c.highPresent && decide (e.current = c.i2 - c.i1)

/-- The supply account of the node is sound: both legs balance (R77), every draw and every entry of the
start queue follows its group, no reserve is above its original value, and a FREE zone entry has none
(R85, R136). -/
abbrev Node.SupplySound (n : Node) : Prop :=
  n.fans.Sound ∧ n.StagesSound ∧ (∀ l : Leg, n.fans.Balanced l) ∧
    (∀ g : Fin 4, n.drawFits g = true ∧ n.targetsFit g = true) ∧
    (∀ e ∈ n.fans.queue, n.entryCurrent e = true) ∧
    ∀ z : Fin 32, n.fans.reserves[z].remaining ≤ n.fans.reserves[z].original ∧
      (n.zones[z].state = .free → n.fans.reserves[z] = {})

/-! ### What a command meets (hypotheses of the statements) -/

/-- A side is UP and a telegram that arrives there passes the header check and may travel on. -/
abbrev Node.Hears (n : Node) (s : Side) (t : Telegram) : Prop :=
  n.isUp s = true ∧ telegramGood t = true ∧ t.hop.toNat < 126

/-- A telegram that arrives on a side is for this node (R56). -/
abbrev Node.Addressed (n : Node) (s : Side) (t : Telegram) : Prop :=
  n.Hears s t ∧ t.hop + 1 = t.target ∧ n.validId = true

/-- An order that arrives on a side passes the checks of R172 that precede its body. -/
abbrev Node.Obeys (n : Node) (s : Side) (t : Telegram) : Prop :=
  n.Addressed s t ∧ fromHeadEnd t = true ∧ n.runState ≠ .unconfigured

/-- A service operation that changes the node passes the checks of R174 that precede its object. -/
abbrev Node.Serves (n : Node) (s : Side) (t : Telegram) : Prop :=
  n.Addressed s t ∧ fromHeadEnd t = true ∧ n.params.permits s = true

end Sys2Proof.Machine
end

