-- ==== Sys2Proof/Certificates/Slice0/Obligations.lean ====
section
/-!
DEFINITION. The statements about the model. In each of them `n` is the node before a command, `q` the
commands that still wait, and `m` the node after it; an equation `m = { n with b := m.b, … }` is the
frame: no block but those named has changed.
-/

open Sys2Proof Sys2Proof.Machine

/-! ### The step -/

/-- A step takes the command at the front of the queue. -/
def Obligations.StepRunsFront : Prop :=
  ∀ (c : Instr) (n : Node) (q : List Instr), step ⟨n, c :: q⟩ = exec c ⟨n, q⟩

/-- THE MODEL'S CHOICE (log entries 2 and 22): with no command waiting a step is one 10 ms tick, which
moves the tick count by one, never lowers the uptime and keeps the queue empty; and the command of a whole
second moves the tick count to the next second. The manual's part: a whole second raises the uptime by 1,
up to 4294967295, where it stays (R179). -/
def Obligations.TimePasses : Prop :=
  (∀ n : Node, step ⟨n, []⟩ = .next ⟨n.tick, []⟩ ∧ n.tick.time.clock = n.time.clock + 1 ∧
    min 4294967295 n.time.uptime ≤ n.tick.time.uptime ∧ n.tick.strap = n.strap) ∧
  ∀ (n : Node) (q : List Instr),
    ∃ m : Node, exec .uptimeSecond ⟨n, q⟩ = .next ⟨m, q⟩ ∧
      m.time.uptime = min 4294967295 (n.time.uptime + 1) ∧
      m.time.clock = (n.time.clock / 100 + 1) * 100 ∧
      m = { n with time := { n.time with uptime := m.time.uptime, clock := m.time.clock } }

/-! ### Invariants -/

/-- Both side units stay sound at every step (R42 to R45, R48, R50, R51). -/
def Obligations.LineSoundKept : Prop :=
  ∀ s t : State, s.node.line.Sound → step s = .next t → t.node.line.Sound

/-- The report queue stays sound at every step (R165, R166). -/
def Obligations.ReportsSoundKept : Prop :=
  ∀ s t : State, s.node.reports.Sound → step s = .next t → t.node.reports.Sound

/-- Both doors stay sound at every step (R125 to R134). That no relatch timer runs in relatch wait is part of
it, and for a SECURED door that has lost its seat that is the model's choice (log entry 47). -/
def Obligations.DoorsSoundKept : Prop :=
  ∀ s t : State, s.node.DoorsSound → step s = .next t → t.node.DoorsSound

/-- The groups, the start queue with its FIRE entries ahead of its NORMAL ones, and the start slot stay sound
at every step (R84, R89, R92, R100), and with them every stage that a target can carry, pending targets
included, stays from 0 to 2 (R75, R97, R101, R138). -/
def Obligations.GroupsSoundKept : Prop :=
  ∀ s t : State, s.node.fans.Sound → s.node.StagesSound → step s = .next t →
    t.node.fans.Sound ∧ t.node.StagesSound

/-- The supply account stays sound at every step: both legs balance (R77), with the draws, the queued
currents, the reserves and the presented targets that the account is computed from (R78 to R85, R98,
R101). That a target is presented by comparing with the one presented last is the model's reading (log
entry 36). The zone entries are taken to be sound, which ZonesSoundKept keeps (R136). -/
def Obligations.SupplySoundKept : Prop :=
  ∀ s t : State, s.node.ZonesSound → s.node.SupplySound → step s = .next t → t.node.SupplySound

/-- The zone entries with their reserves stay sound at every step (R136, R149, R151). -/
def Obligations.ZonesSoundKept : Prop :=
  ∀ s t : State, s.node.ZonesSound → step s = .next t → t.node.ZonesSound

/-- Every block is sound after power-on reset, the supply account with both legs balanced included. -/
def Obligations.SoundAtReset : Prop :=
  State.reset.node.line.Sound ∧ State.reset.node.reports.Sound ∧ State.reset.node.DoorsSound ∧
    State.reset.node.ZonesSound ∧ State.reset.node.SupplySound

/-- The requests listed here keep both legs balanced (R77): a reserve taken (R85) or released, a granted
draw with its conversion (R79 to R82), the return of a whole draw (R84), the return of a stage-down from a
draw of I2 (R83), and the write of a capacity that covers what stands on the leg (R78). -/
def Obligations.LegAccountsBalance : Prop :=
  ∀ (F : Fans) (env : FanEnv), (∀ l, F.Balanced l) →
    (∀ (z : Fin 32) (a : Nat) (G : Fans),
      F.reserves[z] = {} → F.reserve z a = some G → ∀ l, G.Balanced l) ∧
    (∀ (z : Fin 32) (l : Leg), (F.release z).Balanced l) ∧
    (∀ (e : StartEntry) (k : Leg),
      (e.purpose = .start → F.groups[e.group].leg = none) →
      F.drawTest env e = some k → ∀ l, (F.charge env e k).Balanced l) ∧
    (∀ (g : Fin 4), F.groups[g].reserveTaken ≤ F.groups[g].draw →
      ∀ l, (F.returnDraw env g).Balanced l) ∧
    (∀ (g : Fin 4), F.groups[g].draw = (env.config g).i2 → (env.config g).i1 ≤ (env.config g).i2 →
      F.groups[g].leg.isSome = true → F.groups[g].reserveTaken ≤ F.groups[g].draw →
      ∀ l, (F.returnStage env g).Balanced l) ∧
    (∀ (k : Leg) (c : Nat), (F.leg k).drawn + (F.leg k).reserved ≤ c →
      ∀ l, (F.modLeg k fun r => { r with capacity := c }).Balanced l)

/-! ### Encodings -/

/-- The bytes of a good telegram, trailer included, are received as that telegram (R41, R63). -/
def Obligations.WireRoundTrip : Prop :=
  ∀ t : Telegram, telegramGood t = true → receiveCheck (wireBytes t) = some t

/-- The configuration bytes that a READ shows are read back as the same configuration from the data of a
WRITE, for every configuration that passes the range checks: groups, doors, channels, parameters,
contribution entries (whose state part returns to its reset values), input profiles (whose status stays
as it is) and leg capacities (R5, R20, R64, R78, R94, R119, R122, R175, section 3.8). The checks that look
at the rest of the node are not part of this. -/
def Obligations.ConfigsRoundTrip : Prop :=
  (∀ c : GroupConfig, c.sound = true → GroupConfig.parse c.bytes = some c) ∧
    (∀ c : DoorConfig, c.sound = true → DoorConfig.parse c.bytes = some c) ∧
    (∀ c : ChannelConfig, c.sound = true → c.offset < 65536 → c.gain < 65536 →
      c.loopHigh < 65536 → c.loopHold < 256 →
      (∀ p ∈ c.compensation, -32768 ≤ p.coeff ∧ p.coeff ≤ 32767 ∧ -32768 ≤ p.ref ∧
        p.ref ≤ 32767) →
      ChannelConfig.parse c.bytes = some c) ∧
    (∀ p : Params, 1 ≤ p.samplePeriod → p.samplePeriod ≤ 255 → 1 ≤ p.publishInterval →
      p.publishInterval ≤ 255 → 10 ≤ p.silenceLimit → p.silenceLimit ≤ 200 → 1 ≤ p.staleAfter →
      p.staleAfter ≤ p.lapseAfter → p.lapseAfter ≤ 255 → 1 ≤ p.bindWait → p.bindWait ≤ 60 →
      (p.permitWest = true ∨ p.permitEast = true) → Params.parse p.bytes = some p) ∧
    (∀ e : Entry, (∀ id, e.source = .node id → 1 ≤ id ∧ id ≤ 126) → e.channel ≤ 7 →
      e.weight < 256 → Entry.parse e.bytes =
        some { source := e.source, channel := e.channel, weight := e.weight }) ∧
    (∀ p r : Input, p.debounce < 256 →
      r.write p.bytes =
        some { r with pull := p.pull, inverted := p.inverted, debounce := p.debounce,
                      edge := p.edge, action := p.action }) ∧
    (∀ r : LegRecord, r.capacity < 65536 → get16 r.bytes 0 = r.capacity)

/-! ### The line -/

/-- A bad telegram raises the error score, up to 8, and resets a PROVING count; nothing else changes
unless it takes an UP side to a score of 8 (R42, R44). -/
def Obligations.BadTelegramCounted : Prop :=
  ∀ (n : Node) (q : List Instr) (side : Side) (bytes : List Byte),
    receiveCheck bytes = none →
    ((n.side side).state ≠ .up ∨ (n.side side).errorScore < 7) →
    exec (.badTelegram side bytes) ⟨n, q⟩ = .next ⟨n.modSide side fun u =>
      { u with
        errorScore := min 8 (u.errorScore + 1),
        provingCount := if u.state = .proving then 0 else u.provingCount }, q⟩

/-- An UP side whose silence timer expires, or whose error score a bad telegram raises to 8, leaves UP:
its queues empty, its transmission stopped unless it is an IDLE, its neighbour record kept, and the
node ISOLATED if it was OPERATIONAL and the other side is not UP (R43, R44, R48, R177). -/
def Obligations.SideLeavesUp : Prop :=
  ∀ (n : Node) (q : List Instr) (side : Side) (c : Instr),
    (n.side side).state = .up →
    ((c = .silenceTimerExpiry side ∧ (n.side side).silence.isSome = true) ∨
      ∃ bytes, c = .badTelegram side bytes ∧ receiveCheck bytes = none ∧
        7 ≤ (n.side side).errorScore) →
    ∃ m : Node, exec c ⟨n, q⟩ = .next ⟨m, q⟩ ∧
      (m.side side).state = .down ∧ (m.side side).provingCount = 0 ∧
      (m.side side).silence = none ∧ (m.side side).alarm = [] ∧ (m.side side).control = [] ∧
      (m.side side).sample = [] ∧ (m.side side).service = [] ∧
      (m.side side).transmitting =
        (n.side side).transmitting.filter (fun e => e.telegram.kind == .idle) ∧
      (m.side side).neighbourId = (n.side side).neighbourId ∧
      (m.side side).neighbourRunState = (n.side side).neighbourRunState ∧
      (m.side side.other).state = (n.side side.other).state ∧
      m.runState =
        (if n.runState = .operational ∧ n.isUp side.other = false then .isolated else n.runState) ∧
      m = { n with line := m.line, runState := m.runState, reports := m.reports }

/-- A good telegram of any kind takes a DOWN side to PROVING, advances a PROVING count, and at the third
takes the side UP and an ISOLATED node back to OPERATIONAL; it goes no further (R42, R43, R47,
R177). -/
def Obligations.GoodTelegramProves : Prop :=
  ∀ (n : Node) (q : List Instr) (side : Side) (t : Telegram), telegramGood t = true →
    ((n.side side).state = .down →
      exec (.goodTelegramProving side t) ⟨n, q⟩ = .next ⟨n.modSide side fun u =>
        { u with state := .proving, provingCount := 0,
                 silence := some n.params.silenceLimit }, q⟩) ∧
    ((n.side side).state = .proving → (n.side side).provingCount < 2 →
      exec (.goodTelegramProving side t) ⟨n, q⟩ = .next ⟨n.modSide side fun u =>
        { u with provingCount := u.provingCount + 1,
                 silence := some n.params.silenceLimit }, q⟩) ∧
    ((n.side side).state = .proving → 2 ≤ (n.side side).provingCount →
      ∃ m : Node, exec (.goodTelegramProving side t) ⟨n, q⟩ = .next ⟨m, q⟩ ∧
        m.side side = { n.side side with state := .up, provingCount := 0,
                                         silence := some n.params.silenceLimit } ∧
        m.side side.other = n.side side.other ∧
        m.runState = (if n.runState = .isolated then .operational else n.runState) ∧
        m = { n with line := m.line, runState := m.runState, reports := m.reports })

/-- A good IDLE on an UP side loads the silence timer and records the neighbour, the sender byte as it
stands (log entry 20); without a change of neighbour no report is raised (R42, R46). -/
def Obligations.IdleHeard : Prop :=
  ∀ (n : Node) (q : List Instr) (side : Side) (header : Header) (id run : Byte) (r : RunState),
    n.Hears side (header.telegram .idle .toEnd [id, run]) → runStateOf run.toNat = some r →
    ∃ m : Node, exec (.idleTelegram side header [id, run]) ⟨n, q⟩ = .next ⟨m, q⟩ ∧
      m.side side = { n.side side with silence := some n.params.silenceLimit,
                                       neighbourId := some id.toNat,
                                       neighbourRunState := some r } ∧
      m.side side.other = n.side side.other ∧
      ((∀ old ∈ (n.side side).neighbourId, old = id.toNat) → m.reports = n.reports) ∧
      m = { n with line := m.line, reports := m.reports }

/-- A PATH telegram that is not for this node, and an END or BOTH_ENDS telegram of a kind no block is
shown, joins the class queue of the opposite side with its hop count raised by one, where that side is UP
and the queue has room (R50, R55 to R57). A PATH telegram, not a reply or notice, that cannot go on because
the opposite side is not UP, or because its incremented hop count would exceed 126, is answered with a
PATH_NOTICE on its arrival side (R55, R60, R62). -/
def Obligations.TelegramsRouted : Prop :=
  (∀ (n : Node) (q : List Instr) (side : Side) (kind : Kind) (header : Header) (body : List Byte),
    n.Hears side (header.telegram kind .path body) → pathKind kind = true →
    (header.hop + 1 ≠ header.target ∨ n.validId = false) →
    n.isUp side.other = true → (n.side side.other).hasRoom header.cls = true →
    exec (.pathTelegram side kind header body) ⟨n, q⟩ =
      .next ⟨(n.loadSilence side).modSide side.other fun u =>
        u.join ⟨{ header.telegram kind .path body with hop := header.hop + 1 },
          .forwarded side⟩, q⟩) ∧
  (∀ (n : Node) (q : List Instr) (side : Side) (kind : Kind) (header : Header) (body : List Byte),
    n.isUp side = true → telegramGood (header.telegram kind .path body) = true →
    pathKind kind = true → isReply kind = false → n.validId = true →
    (n.side side).hasRoom .control = true →
    (header.hop.toNat < 126 → header.hop + 1 ≠ header.target ∧ n.isUp side.other = false) →
    exec (.pathTelegram side kind header body) ⟨n, q⟩ =
      .next ⟨(n.loadSilence side).modSide side fun u =>
        u.join ⟨{ kind := .pathNotice, cls := .control, route := .toEnd, hop := 0, target := 0,
                  origin := n.idByte, tag := header.tag,
                  body := [if header.hop.toNat < 126 then 1 else 2, n.idByte, header.hop + 1,
                           b8 (kindCode kind), header.tag] }, .here⟩, q⟩) ∧
  (∀ (n : Node) (q : List Instr) (side : Side) (both : Bool) (kind : Kind) (header : Header)
    (body : List Byte),
    n.Hears side (header.telegram kind (endRoute both) body) → endKind kind = true →
    n.isUp side.other = true → (n.side side.other).hasRoom header.cls = true →
    exec (.endTelegram side both kind header body) ⟨n, q⟩ =
      .next ⟨(n.loadSilence side).modSide side.other fun u =>
        u.join ⟨{ header.telegram kind (endRoute both) body with hop := header.hop + 1 },
          .forwarded side⟩, q⟩)

/-- A passing SAMPLE is read record by record, each of four bytes, or six with TWA_PRESENT, up to one that
would extend past the body: a record renews the entries that name its origin and channel, unless its FAULT
flag is set, and no others (R68, R69). The SAMPLE is then forwarded with its hop count raised by one (R57).
That an unsigned value above 32767 is kept unclipped, and that an entry that names this node's own ID takes
a reading too, are the model's choices (log entries 40 and 44). -/
def Obligations.SampleRead : Prop :=
  ∀ (n : Node) (q : List Instr) (side : Side) (both : Bool) (header : Header)
    (records : List (List Byte)) (rest : List Byte),
    let body := records.flatten ++ rest
    n.Hears side (header.telegram .sample (endRoute both) body) →
    (∀ r ∈ records, r.length = if (r.getD 1 0).toNat / 16 % 2 = 1 then 6 else 4) →
    (rest.length < 4 ∨ (rest.length < 6 ∧ (rest.getD 1 0).toNat / 16 % 2 = 1)) →
    ∃ m : Node, exec (.sampleTelegram side both header body) ⟨n, q⟩ = .next ⟨m, q⟩ ∧
      (∀ i : Fin 16, m.contribution.entries[i] = records.foldl (fun e r =>
        let b (k : Nat) : Nat := (r.getD k 0).toNat
        let v := b 2 * 256 + b 3
        if e.source = .node header.origin.toNat ∧ e.channel = b 0 / 16 ∧ b 1 / 8 % 2 = 0 then
          { e with
            state := .live, level := levelOf (b 1 / 64), age := 0,
            value := if b 0 % 16 = 3 ∨ b 0 % 16 = 4 ∨ b 0 % 16 = 5 then signed16 v else v }
        else e) n.contribution.entries[i]) ∧
      m.contribution.demand = n.contribution.demand ∧
      (n.isUp side.other = true → (n.side side.other).hasRoom header.cls = true →
        m = { (n.loadSilence side).modSide side.other fun u =>
                u.join ⟨{ header.telegram .sample (endRoute both) body with hop := header.hop + 1 },
                  .forwarded side⟩ with
              contribution := m.contribution }) ∧
      m = { n with contribution := m.contribution, line := m.line, reports := m.reports }

/-- The decay of a score; an idle timer that expires with the transmitter free and the queues empty
sends the IDLE of the node; the silence of a PROVING side takes it DOWN (R43, R44, R45). -/
def Obligations.SideTimersAct : Prop :=
  ∀ (n : Node) (q : List Instr) (side : Side),
    exec (.errorScoreDecay side) ⟨n, q⟩ =
      .next ⟨n.modSide side fun u => { u with errorScore := u.errorScore - 1 }, q⟩ ∧
    ((n.side side).idle.isSome = true → (n.side side).transmitting = none →
      (n.side side).alarm = [] → (n.side side).control = [] → (n.side side).sample = [] →
      (n.side side).service = [] →
      exec (.idleTimerExpiry side) ⟨n, q⟩ = .next ⟨n.modSide side fun u =>
        { u with
          idle := none,
          transmitting := some
            ⟨{ kind := .idle, cls := .service, route := .toEnd, hop := 0, target := 0,
               origin := n.idByte, tag := 0, body := [n.idByte, b8 (runStateCode n.runState)] },
             .here⟩ }, q⟩) ∧
    ((n.side side).state = .proving → (n.side side).silence.isSome = true →
      exec (.silenceTimerExpiry side) ⟨n, q⟩ = .next ⟨n.modSide side fun u =>
        { u with state := .down, provingCount := 0, silence := none }, q⟩)

/-- A completed transmission starts the idle timer, and the transmitter takes the head of the highest
class that waits, ALARM, CONTROL, SAMPLE, SERVICE, or is free (R45, R51). -/
def Obligations.TransmissionCompletes : Prop :=
  ∀ (n : Node) (q : List Instr) (side : Side), (n.side side).transmitting.isSome = true →
    ∃ m : Node, exec (.transmissionComplete side) ⟨n, q⟩ = .next ⟨m, q⟩ ∧
      m = { n with line := m.line } ∧ m.side side.other = n.side side.other ∧
      (∀ e r, (n.side side).alarm = e :: r → m.side side =
        { n.side side with idle := some 5, transmitting := some e, alarm := r }) ∧
      (∀ e r, (n.side side).alarm = [] → (n.side side).control = e :: r → m.side side =
        { n.side side with idle := some 5, transmitting := some e, control := r }) ∧
      (∀ e r, (n.side side).alarm = [] → (n.side side).control = [] →
        (n.side side).sample = e :: r → m.side side =
          { n.side side with idle := some 5, transmitting := some e, sample := r }) ∧
      (∀ e r, (n.side side).alarm = [] → (n.side side).control = [] →
        (n.side side).sample = [] → (n.side side).service = e :: r → m.side side =
          { n.side side with idle := some 5, transmitting := some e, service := r }) ∧
      ((n.side side).alarm = [] → (n.side side).control = [] → (n.side side).sample = [] →
        (n.side side).service = [] → m.side side =
          { n.side side with idle := some 5, transmitting := none })

/-- A telegram offered to a SAMPLE queue of 12 evicts the oldest queued telegram of its own origin, or
the oldest of all where none has it, and joins the tail, without a report or a notice (R52). The
transmitter of a full queue is busy. -/
def Obligations.SampleEvicts : Prop :=
  ∀ (n : Node) (s : Side) (e : Queued),
    n.isUp s = true → e.telegram.cls = .sample → (n.side s).sample.length = 12 →
    (n.side s).transmitting.isSome = true →
    (∀ a x b, (n.side s).sample = a ++ x :: b → x.telegram.origin = e.telegram.origin →
      (∀ y ∈ a, y.telegram.origin ≠ e.telegram.origin) →
      n.offer s e = n.modSide s fun u => { u with sample := a ++ b ++ [e] }) ∧
    ((∀ y ∈ (n.side s).sample, y.telegram.origin ≠ e.telegram.origin) →
      ∀ x b, (n.side s).sample = x :: b →
        n.offer s e = n.modSide s fun u => { u with sample := b ++ [e] })

/-! ### The node as a whole -/

/-- Power-on reset puts every block at the reset values the manual states, with the strap value sampled;
a strap value of 0 or 127 leaves the one report ID_INVALID (R7, R49, R66, R93, R115, R118, R134, R137,
R165, R175, R178, R179). The decay interval begins at 12 ticks with one of 13 next (R44). The
values the manual does not state (log entries 4, 5, 11, 22, 36) are left out. -/
def Obligations.PowerOnResets : Prop :=
  ∀ (n : Node) (q : List Instr) (straps : BitVec 7),
    ∃ m : Node, exec (.powerOnReset straps) ⟨n, q⟩ = .next ⟨m, q⟩ ∧
      m.strap = straps ∧ m.runState = .unconfigured ∧ m.params = {} ∧ m.time.uptime = 0 ∧
      m.time.samplePeriod = 100 ∧ m.time.decay = 12 ∧ m.time.decayLong = true ∧
      (∀ i : Fin 8, m.sensors.channels[i] = {}) ∧
      m.sensors.fireSuspect = false ∧ m.sensors.publicationCounter = 0 ∧
      m.sensors.sampleSequence = 0 ∧ (∀ i : Fin 16, m.contribution.entries[i] = {}) ∧
      m.contribution.demand = 0 ∧ m.line.west = {} ∧ m.line.east = {} ∧
      (∀ g : Fin 4, m.setups[g] = {}) ∧
      (∀ g : Fin 4, let f := m.fans.groups[g]
        f.state = .stopping ∧ f.stage = 0 ∧ f.fwd = false ∧ f.rev = false ∧ f.high = false ∧
          f.tripCause = none ∧ f.pending = none ∧ f.start = none ∧ f.stageUp = none ∧
          f.coast = some 18000 ∧ f.runMin = none ∧ f.rest = none ∧ f.windmill = none ∧
          f.leg = none ∧ f.draw = 0 ∧ f.reserveZone = none ∧ f.reserveTaken = 0) ∧
      m.fans.l1 = {} ∧ m.fans.l2 = {} ∧ m.fans.queue = [] ∧ m.fans.slot = none ∧
      (∀ i : Fin 24, let p := m.inputs[i]
        p.pull = .up ∧ p.inverted = false ∧ p.debounce = 20 ∧ p.edge = .rising ∧
          p.action = .report ∧ p.level = none ∧ p.count = 0) ∧
      m.nicheAlert = false ∧
      (∀ d : Fin 2, let x := m.doors[d]
        x.config = {} ∧ x.state = .released ∧ x.causes = { dflt := true } ∧
          x.relatchWait = false ∧ x.hold = false ∧ x.assist = false ∧ x.beacon = false ∧
          x.jam = none ∧ x.relatch = none ∧ x.leftOpen = none ∧ x.assistTail = none ∧
          x.faultTimer = none) ∧
      (∀ z : Fin 32, m.zones[z] = {} ∧ m.fans.reserves[z] = {}) ∧
      m.reports.lost = false ∧ m.reports.sequence = 0 ∧
      m.reports.entries =
        (if straps = 0 ∨ straps = 127 then
          [{ kind := .idInvalid, object := 0, severity := .alarm, detail := straps.toNat,
             count := 1, first := 0, latest := 0 }]
        else [])

/-- An acquisition cycle reloads the sample-period timer and gives every channel that is not OFF its turn,
in ascending order: it converts the loop and reads channels before it as the cycle left them and channels
after it as the cycle found them (R1, R2, R3, R9). It counts toward the next SAMPLE (R35), evaluates the
fire-suspect condition on the levels it leaves (R33), forms the demand over the table it leaves (R72) and
from it each group's demand stage (R75), and clears the level-changed marks. A LOCAL entry takes the level and
value that its channel's turn leaves, unless the quality contains FAULT or the channel is OFF, and no other
entry changes (R67, R69). A SAMPLE is due when the count reaches the publish interval or a level has changed;
if the node is OPERATIONAL with a valid ID and a channel is included, one copy, with a record for each
channel that is included, joins the SAMPLE queue of each side that is UP (R35 to R40). Parameters, inputs,
niche-alert latch, zones and run state stay. The rounding of a conversion is log entry 38. -/
def Obligations.AcquisitionRuns : Prop :=
  ∀ (n : Node) (q : List Instr) (currents : Vector Nat 8),
    ∃ m : Node, exec (.acquisitionCycle currents) ⟨n, q⟩ = .next ⟨m, q⟩ ∧
      m.time = { n.time with samplePeriod := 10 * n.params.samplePeriod } ∧
      (∀ i : Fin 8, n.sensors.channels[i].state = .off →
        m.sensors.channels[i] = { n.sensors.channels[i] with levelChanged := false }) ∧
      (∀ i : Fin 8, n.sensors.channels[i].state ≠ .off →
        ∃ seen : Vector Channel 8,
          (∀ j : Fin 8, j < i →
            m.sensors.channels[j] = { seen[j] with levelChanged := false }) ∧
          (∀ j : Fin 8, i ≤ j → seen[j] = n.sensors.channels[j]) ∧
          m.sensors.channels[i] =
            { (n.sensors.channels[i].turn seen i
                (min 65535 ((currents[i] * 65535 + 12000000) / 24000000))).1 with
              levelChanged := false }) ∧
      m.sensors.publicationCounter =
        (if n.params.publishInterval ≤ n.sensors.publicationCounter + 1 then 0
        else n.sensors.publicationCounter + 1) ∧
      (m.sensors.fireSuspect = true ↔ n.sensors.fireSuspect = true ∨
        ∃ i : Fin 8, m.sensors.channels[i].config.kind = .temperature ∧
          (m.sensors.channels[i].level = .critical ∨
            (m.sensors.channels[i].level = .high ∧
              ∃ j : Fin 8, m.sensors.channels[j].config.kind = .opacity ∧
                (m.sensors.channels[j].level = .high ∨
                  m.sensors.channels[j].level = .critical)))) ∧
            (∀ (k : Fin 16) (i : Fin 8), n.contribution.entries[k].source = .here →
        n.contribution.entries[k].channel = i.val → n.sensors.channels[i].state ≠ .off →
        m.sensors.channels[i].quality.fault = false →
        m.contribution.entries[k] =
          { n.contribution.entries[k] with
            state := .live, level := m.sensors.channels[i].level,
            value := m.sensors.channels[i].published, age := 0 }) ∧
      (∀ k : Fin 16,
        (n.contribution.entries[k].source ≠ .here ∨
          ∀ i : Fin 8, n.contribution.entries[k].channel = i.val →
            n.sensors.channels[i].state = .off ∨ m.sensors.channels[i].quality.fault = true) →
        m.contribution.entries[k] = n.contribution.entries[k]) ∧
      (let due : Prop := n.params.publishInterval ≤ n.sensors.publicationCounter + 1 ∨
         ∃ i : Fin 8, n.sensors.channels[i].levelChanged = true ∨
           m.sensors.channels[i].level ≠ n.sensors.channels[i].level
       let sent : Prop := due ∧ n.runState ≠ .unconfigured ∧ n.validId = true ∧
         ∃ i : Fin 8, m.sensors.channels[i].included = true
       (¬ sent → m.line = n.line ∧ m.sensors.sampleSequence = n.sensors.sampleSequence) ∧
         (sent → m.sensors.sampleSequence = n.sensors.sampleSequence + 1 ∧
           ∀ s : Side, (n.isUp s = false → m.side s = n.side s) ∧
             (n.isUp s = true → (n.side s).hasRoom .sample = true →
               m.side s = (n.side s).join
                 ⟨{ kind := .sample, cls := .sample, route := .bothEnds, hop := 0, target := 0,
                    origin := n.idByte, tag := n.sensors.sampleSequence,
                    body := (List.finRange 8).flatMap fun i =>
                      let c := m.sensors.channels[i]
                      if c.state = .off ∨ c.state = .acquiring then []
                      else
                        [b8 (16 * i.val + channelKindCode c.config.kind),
                          b8 (64 * levelCode c.level + 16 * flag c.twa.isSome +
                            8 * flag c.quality.fault + 4 * flag c.quality.held +
                            2 * flag c.quality.compLost + flag c.quality.sat)] ++
                          putS16 c.published ++
                          match c.twa with
                          | some t => put16 t
                          | none => [] }, .here⟩))) ∧
      m.contribution.demand =
        min 1000 ((m.contribution.entries.toList.map Entry.contribution).sum) ∧
      (∀ g : Fin 4, m.setups[g] =
        (let c := n.setups[g].config
         let s := n.setups[g].demandStage
         let d := m.contribution.demand
         let rising := if c.d2 ≤ d then 2 else if c.d1 ≤ d then 1 else 0
         { n.setups[g] with
           demandStage :=
             if s < rising then rising
             else if s = 2 ∧ d < c.d2 - c.hd then (if c.d1 - c.hd ≤ d then 1 else 0)
             else if s = 1 ∧ d < c.d1 - c.hd then 0
             else s })) ∧
      m = { n with time := m.time, sensors := m.sensors, contribution := m.contribution,
                   line := m.line, setups := m.setups, fans := m.fans, doors := m.doors,
                   reports := m.reports }

/-- An ageing step raises the age of every entry in LIVE, HELD or LAPSED, up to 65535, and passes LIVE to
HELD at stale_after and HELD to LAPSED at lapse_after; an EMPTY entry stays (R70). -/
def Obligations.AgeingSteps : Prop :=
  ∀ (n : Node) (q : List Instr),
    ∃ m : Node, exec .ageingStep ⟨n, q⟩ = .next ⟨m, q⟩ ∧
      (∀ i : Fin 16, m.contribution.entries[i] =
        (let e := n.contribution.entries[i]
         let a := min 65535 (e.age + 1)
         let stale := e.state = .held ∨ 10 * n.params.staleAfter ≤ a
         if e.state = .empty then e
         else { e with
           age := a,
           state := if e.state = .lapsed then .lapsed
             else if stale ∧ 10 * n.params.lapseAfter ≤ a then .lapsed
             else if stale then .held
             else .live })) ∧
      m.contribution.demand = n.contribution.demand ∧
      m = { n with contribution := m.contribution, reports := m.reports }

/-- A drain tick whose conditions fail changes nothing. Otherwise four entries leave the report queue, or
all it holds, the lost flag clears, the sequence number rises, and the REPORT joins the queue of each
side that is UP (R168, R169). -/
def Obligations.DrainTakesFour : Prop :=
  ∀ (n : Node) (q : List Instr),
    ∃ m : Node, exec .drainTick ⟨n, q⟩ = .next ⟨m, q⟩ ∧
      (n.drainReady = false → m = n) ∧
      (n.drainReady = true →
        m.reports.entries.length = n.reports.entries.length - 4 ∧
        m.reports.entries.Sublist n.reports.entries ∧
        m.reports.lost = false ∧ m.reports.sequence = n.reports.sequence + 1 ∧
        (∀ s : Side, m.side s =
          if n.isUp s = true then (n.side s).join ⟨reportTelegram n, .here⟩ else n.side s)) ∧
      m = { n with line := m.line, reports := m.reports }

/-- A sampling strobe samples every pin: each input's count follows R117 while its level stands and R118
while it is absent, and a count above the debounce value takes the conditioned level. -/
def Obligations.StrobeDebounces : Prop :=
  ∀ (n : Node) (q : List Instr) (pins : BitVec 24),
    ∃ m : Node, exec (.samplingStrobe pins) ⟨n, q⟩ = .next ⟨m, q⟩ ∧
      (∀ i : Fin 24, m.inputs[i] =
        (let p := n.inputs[i]
         let pin := pins.getLsbD i
         let c := if p.inverted = true then !pin else pin
         let k := match p.level with
           | some v => if c = v then 0 else p.count + 1
           | none => if p.last = some c then p.count + 1 else 1
         if p.debounce < k then { p with pin := pin, level := some c, count := 0, last := some c }
         else { p with pin := pin, count := k, last := some c })) ∧
      m = { n with inputs := m.inputs, nicheAlert := m.nicheAlert, fans := m.fans,
                   doors := m.doors, reports := m.reports }

/-- A change of a debounced level reaches its owner: a leg becomes available or not, a press of PUSH sets
REQUEST, and a matching edge of a niche input with action ALERT sets the niche-alert latch (R87, R88,
R117, R121, R123). -/
def Obligations.LevelChangeDelivered : Prop :=
  ∀ (n : Node) (q : List Instr) (i : Fin 24) (v : Bool), n.inputs[i].level = some !v →
    ∃ m : Node, exec (.debouncedLevelChange i v) ⟨n, q⟩ = .next ⟨m, q⟩ ∧
      m.inputs[i] = { n.inputs[i] with level := some v, count := 0 } ∧
      (∀ j : Fin 24, j ≠ i → m.inputs[j] = n.inputs[j]) ∧
      (i = 18 → m.fans.l1.available = v) ∧ (i = 19 → m.fans.l2.available = v) ∧
      (i = 14 → v = true → m.doors[(0 : Fin 2)].causes.request = true) ∧
      (i = 17 → v = true → m.doors[(1 : Fin 2)].causes.request = true) ∧
      (20 ≤ i.val → m.nicheAlert =
        (n.nicheAlert || (n.inputs[i].edge.matches v && n.inputs[i].action == .alert))) ∧
      (i.val < 20 → m.nicheAlert = n.nicheAlert) ∧
      m = { n with inputs := m.inputs, nicheAlert := m.nicheAlert, fans := m.fans,
                   doors := m.doors, reports := m.reports }

/-- A first reading reaches its owner: a leg becomes available or not, a LOCAL contact that is true locks
its group, a CLOSED contact that is false finds the door OPEN, and a niche input does nothing (R86,
R114, R118, R134). -/
def Obligations.FirstReadingDelivered : Prop :=
  ∀ (n : Node) (q : List Instr) (i : Fin 24) (v : Bool), n.inputs[i].level = none →
    ∃ m : Node, exec (.firstReading i v) ⟨n, q⟩ = .next ⟨m, q⟩ ∧
      m.inputs[i] = { n.inputs[i] with level := some v, count := 0 } ∧
      (∀ j : Fin 24, j ≠ i → m.inputs[j] = n.inputs[j]) ∧
      (i = 18 → m.fans.l1.available = v) ∧ (i = 19 → m.fans.l2.available = v) ∧
      (∀ g : Fin 4, i.val = 3 * g.val + 2 → v = true → m.fans.groups[g].state = .locked) ∧
      (∀ d : Fin 2, i.val = 12 + 3 * d.val → v = false → m.doors[d].state = .opened) ∧
      (20 ≤ i.val → m = { n with inputs := m.inputs }) ∧
      m = { n with inputs := m.inputs, fans := m.fans, doors := m.doors, reports := m.reports }

/-! ### Sensors -/

/-- A code is in limit exactly from loop_low to loop_high; supervision depends on the code through that
test and the channel's state alone; and a turn stores the raw code whatever the result (R8). From ACQUIRING
and GOOD a code in limit leads to GOOD, one out of limit to HELD with hold count 1, or to FAULT where
loop_hold is 0 (R10, R11). In HELD and FAULT the codes in limit are counted: the third in a row leads to
GOOD; until then HELD goes on while its hold count is below loop_hold and ends in FAULT, which keeps the
restore count (R12 to R14). A turn raises SENSOR_FAULT on entry to FAULT and SENSOR_RESTORED on leaving it,
and then LEVEL_CHANGE if the level has changed; in FAULT it changes nothing else but the counts and the
quality (R13, R14, R32). -/
def Obligations.CodeSupervised : Prop :=
  ∀ (channels : Vector Channel 8) (i : Fin 8) (c : Channel) (code : Nat),
    (c.config.inLimit code = true ↔ c.config.loopLow ≤ code ∧ code ≤ c.config.loopHigh) ∧
    (∀ code', c.config.inLimit code' = c.config.inLimit code →
      c.supervise code' = c.supervise code) ∧
    (let s := c.supervise code
     let inside := c.config.loopLow ≤ code ∧ code ≤ c.config.loopHigh
     let restored := if inside then c.restoreCount + 1 else 0
     (c.state = .acquiring ∨ c.state = .good →
       (inside → s.state = .good ∧ s.holdCount = 0 ∧ s.restoreCount = 0) ∧
         (¬ inside → c.config.loopHold ≠ 0 →
           s.state = .held ∧ s.holdCount = 1 ∧ s.restoreCount = 0) ∧
         (¬ inside → c.config.loopHold = 0 →
           s.state = .fault ∧ s.holdCount = 0 ∧ s.restoreCount = 0)) ∧
       (c.state = .held ∨ c.state = .fault → restored = 3 →
         s.state = .good ∧ s.holdCount = 0 ∧ s.restoreCount = 0) ∧
       (c.state = .held → restored ≠ 3 → c.holdCount < c.config.loopHold →
         s.state = .held ∧ s.holdCount = c.holdCount + 1 ∧ s.restoreCount = restored) ∧
       (c.state = .held → restored ≠ 3 → c.config.loopHold ≤ c.holdCount →
         s.state = .fault ∧ s.holdCount = 0 ∧ s.restoreCount = restored) ∧
       (c.state = .fault → restored ≠ 3 →
         s.state = .fault ∧ s.holdCount = 0 ∧ s.restoreCount = restored)) ∧
    (c.state ≠ .off →
      let s := c.supervise code
      let t := c.turn channels i code
      t.1.rawCode = code ∧ t.1.state = s.state ∧ t.1.holdCount = s.holdCount ∧
        t.1.restoreCount = s.restoreCount ∧
        (s.state = .held → t.1.quality = { held := true }) ∧
        (s.state = .fault → t.1 =
          { c with rawCode := code, state := .fault, holdCount := s.holdCount,
                   restoreCount := s.restoreCount, quality := { fault := true } }) ∧
        t.2 =
          (if s.state = .fault ∧ c.state ≠ .fault then
            [{ kind := .sensorFault, object := i, severity := .alarm, detail := code }]
          else if s.state = .good ∧ c.state = .fault then
            [{ kind := .sensorRestored, object := i, severity := .info, detail := code }]
          else []) ++
            if t.1.level = c.level then []
            else [{ kind := .levelChange, object := i,
                    severity := if levelCode t.1.level < 2 then .info else .alarm,
                    detail := levelCode t.1.level }])

/-- Calibration: with the compensation term `e` of a usable source, or none and COMP_LOST for a source that
is not usable (R17), the value is the accumulator rounded to the nearest count, an exact half upward (R16,
R18), or the end of the kind's range that it lies beyond, with SAT (R19). A turn that supervision leaves in
GOOD smooths that value and shows its flags (R15, R21). -/
def Obligations.CalibrationFormed : Prop :=
  (∀ (channels : Vector Channel 8) (cfg : ChannelConfig) (code : Nat) (e : Int),
    let usable (p : Compensation) : Prop := channels[p.source].config.kind = .temperature ∧
      (channels[p.source].state = .good ∨ channels[p.source].state = .held)
    (∀ p, cfg.compensation = some p → usable p →
      e = p.coeff * (channels[p.source].published - p.ref)) →
    ((∀ p, cfg.compensation = some p → ¬ usable p) → e = 0) →
    let acc := ((code : Int) - cfg.offset) * cfg.gain + e + 8192
    let v := calibrate channels cfg code
    (v.compLost = true ↔ ∃ p, cfg.compensation = some p ∧ ¬ usable p) ∧
      (v.sat = false → cfg.kind.bottom ≤ v.value ∧ v.value ≤ 32767 ∧
        16384 * v.value ≤ acc ∧ acc < 16384 * (v.value + 1)) ∧
      (v.sat = true → (v.value = 32767 ∧ 16384 * 32768 ≤ acc) ∨
        (v.value = cfg.kind.bottom ∧ acc < 16384 * cfg.kind.bottom))) ∧
  (∀ (channels : Vector Channel 8) (i : Fin 8) (c : Channel) (code : Nat),
    (c.supervise code).state = .good →
    let v := calibrate channels c.config code
    let t := (c.turn channels i code).1
    t.smoothing = (c.smooth (!c.hasValue) v.value).smoothing ∧
      t.published = (c.smooth (!c.hasValue) v.value).published ∧
      t.quality = { sat := v.sat, compLost := v.compLost })

/-- The dose ring: a sample is added to the open slot; the slot that reaches 2^m samples closes into the
list of at most 16 sums, the oldest leaving, and with 16 sums held the TWA is their mean, rounded to the
nearest count with an exact half upward (R25, R26, R27). Sums and TWA stay within the bounds of R26 and
R27. -/
def Obligations.DoseAccumulated : Prop :=
  ∀ c : Channel, 0 ≤ c.published → c.published ≤ 32767 → c.openCount < 2 ^ c.config.m →
    c.openSum ≤ c.openCount * 32767 → c.closedSlots.length ≤ 16 →
    (∀ x ∈ c.closedSlots, x ≤ 2 ^ c.config.m * 32767) → (∀ t ∈ c.twa, t ≤ 32767) →
    let d := c.addDose
    let sum := c.openSum + c.published.toNat
    (c.config.dose = false → d = c) ∧
      (c.config.dose = true → c.openCount + 1 < 2 ^ c.config.m →
        d = { c with openSum := sum, openCount := c.openCount + 1 }) ∧
      (c.config.dose = true → c.openCount + 1 = 2 ^ c.config.m →
        d = { c with openSum := 0, openCount := 0, closedSlots := d.closedSlots, twa := d.twa } ∧
          d.closedSlots = (c.closedSlots ++ [sum]).drop (c.closedSlots.length + 1 - 16) ∧
          (d.closedSlots.length < 16 → d.twa = c.twa) ∧
          (d.closedSlots.length = 16 → ∃ t, d.twa = some t ∧
            2 ^ (4 + c.config.m) * t ≤ d.closedSlots.sum + 2 ^ (3 + c.config.m) ∧
            d.closedSlots.sum + 2 ^ (3 + c.config.m) < 2 ^ (4 + c.config.m) * (t + 1))) ∧
      d.openCount < 2 ^ c.config.m ∧ d.openSum ≤ d.openCount * 32767 ∧
      d.closedSlots.length ≤ 16 ∧ (∀ x ∈ d.closedSlots, x ≤ 2 ^ c.config.m * 32767) ∧
      ∀ t ∈ d.twa, t ≤ 32767

/-- Classification with thresholds in order (R20): the level rises to the highest one whose threshold the
level variable reaches; if none above it is reached and the variable lies below the level's threshold less
the hysteresis, it falls to the highest lower one whose threshold less the hysteresis is reached, or to
NORMAL; otherwise it stays (R30). A turn in GOOD classifies its level variable. That a variable of 32767
reaches reset thresholds is log entry 39. -/
def Obligations.LevelClassified : Prop :=
  (∀ (cfg : ChannelConfig) (l : Level) (x : Int),
    cfg.t1 ≤ cfg.t2 → cfg.t2 ≤ cfg.t3 → cfg.hysteresis < cfg.t1 →
    let thr (k : Level) : Int := cfg.threshold k
    let h : Int := cfg.hysteresis
    let r := cfg.classify l x
    ((∃ k, levelCode l < levelCode k ∧ thr k ≤ x) →
      levelCode l < levelCode r ∧ thr r ≤ x ∧ ∀ k, levelCode r < levelCode k → x < thr k) ∧
    ((∀ k, levelCode l < levelCode k → x < thr k) →
      (l ≠ .normal → x < thr l - h →
        levelCode r < levelCode l ∧ (r ≠ .normal → thr r - h ≤ x) ∧
          ∀ k, levelCode r < levelCode k → levelCode k < levelCode l → x < thr k - h) ∧
      (l = .normal ∨ thr l - h ≤ x → r = l))) ∧
  (∀ (channels : Vector Channel 8) (i : Fin 8) (c : Channel) (code : Nat),
    (c.supervise code).state = .good →
    let t := (c.turn channels i code).1
    t.level = c.config.classify c.level t.levelVariable ∧
      t.levelChanged = (c.levelChanged || t.level != c.level))

/-- An initialising value v sets the smoothing state to v × 256 and the published value to v; a fresh
value is marked initialising exactly while the channel has had none, and a written channel has had
none (R22). -/
def Obligations.FirstValueTaken : Prop :=
  (∀ (c : Channel) (v : Int),
    (c.smooth true v).smoothing = v * 256 ∧ (c.smooth true v).published = v) ∧
  (∀ (channels : Vector Channel 8) (c : Channel) (s : Supervision) (code : Nat),
    s.state = .good → ∃ v, (cycleResult channels c s code).1 = .fresh (!c.hasValue) v) ∧
  (∀ (c : Channel) (v : Calibrated), (c.chain (.fresh (!c.hasValue) v)).hasValue = true) ∧
  (∀ cfg : ChannelConfig, (Channel.written cfg).hasValue = false)

/-- The level variable by kind: the larger of published value and TWA for gas, the magnitude, at most
32767, for VELOCITY and DPRESSURE, the published value otherwise; a negative TEMPERATURE reaches no
threshold (R29). -/
def Obligations.LevelVariableFormed : Prop :=
  ∀ c : Channel,
    ((c.config.kind = .co ∨ c.config.kind = .no2) →
      (∀ t, c.twa = some t → c.levelVariable = max c.published t) ∧
      (c.twa = none → c.levelVariable = c.published)) ∧
    ((c.config.kind = .velocity ∨ c.config.kind = .dpressure) →
      c.levelVariable = min 32767 |c.published|) ∧
    ((c.config.kind = .opacity ∨ c.config.kind = .temperature ∨ c.config.kind = .generic) →
      c.levelVariable = c.published) ∧
    (c.config.kind = .temperature → c.published < 0 →
      c.config.candidate c.levelVariable = .normal)

/-- Smoothing keeps the state within 256 times the kind's range and the published value within the
range (R4, R22 to R24). -/
def Obligations.SmoothingKeepsRange : Prop :=
  ∀ (c : Channel) (init : Bool) (v : Int),
    c.config.kind.bottom * 256 ≤ c.smoothing → c.smoothing ≤ 32767 * 256 →
    c.config.kind.bottom ≤ v → v ≤ 32767 →
    let c' := c.smooth init v
    c.config.kind.bottom * 256 ≤ c'.smoothing ∧ c'.smoothing ≤ 32767 * 256 ∧
      c.config.kind.bottom ≤ c'.published ∧ c'.published ≤ 32767

/-! ### Reports -/

/-- A report that matches no entry of a full queue: an INFO report evicts the oldest INFO entry or is
discarded, an ALARM report evicts the oldest INFO entry or else the oldest ALARM entry, and the lost
flag is set in every case (R167). -/
def Obligations.ReportsMakeRoom : Prop :=
  ∀ (q : ReportQueue) (now : Nat) (r : Report),
    q.entries.length = 16 → (∀ e ∈ q.entries, e.kind ≠ r.kind ∨ e.object ≠ r.object) →
    (∀ a x b, q.entries = a ++ x :: b → x.severity = .info → (∀ y ∈ a, y.severity = .alarm) →
      q.add now r = { q with entries := a ++ b ++ [r.entry now], lost := true }) ∧
    ((∀ y ∈ q.entries, y.severity = .alarm) →
      (r.severity = .info → q.add now r = { q with lost := true }) ∧
      (r.severity = .alarm → ∀ x b, q.entries = x :: b →
        q.add now r = { q with entries := b ++ [r.entry now], lost := true }))

/-! ### Fan groups -/

/-- A start timer that expires in STARTING trips the group with NO_FEEDBACK: outputs off, no leg
held, coast started (R107, R84); that the direction of the tripped group stays as it was is the model's
choice (log entry 5). A stage-up timer that expires lets the group run on as it is and frees the
slot it holds (R109, R92). -/
def Obligations.StartTimersExpire : Prop :=
  ∀ (n : Node) (q : List Instr) (g : Fin 4),
    (n.fans.groups[g].state = .starting → n.fans.groups[g].start.isSome = true →
      ∃ m : Node, exec (.startTimerExpiry g) ⟨n, q⟩ = .next ⟨m, q⟩ ∧
        (let f := m.fans.groups[g]
         f.state = .tripped ∧ f.tripCause = some .noFeedback ∧ f.fwd = false ∧ f.rev = false ∧
           f.high = false ∧ f.stage = 0 ∧ f.leg = none ∧ f.pending = none ∧ f.start = none ∧
           f.coast = Timer.seconds n.setups[g].config.coastTime ∧
           f.direction = n.fans.groups[g].direction) ∧
        m = { n with fans := m.fans, reports := m.reports }) ∧
    (n.fans.groups[g].stageUp.isSome = true → n.fans.queue = [] →
      exec (.stageUpTimerExpiry g) ⟨n, q⟩ = .next ⟨{ n with fans :=
        { n.fans with
          groups := upd n.fans.groups g fun f => { f with stageUp := none },
          slot := match n.fans.slot with
            | some (h, p) => if h = g then none else some (h, p)
            | none => none } }, q⟩)

/-- A coast timer that expires in STOPPING takes the group to OFF with its rest timer started; a held
group keeps its pending target, and one that is not held and is asked for stage 0 has none left (R99,
R102, R111). A rest timer that expires in OFF takes a waiting pending start to QUEUED, where its entry
joins, while the slot is held and no airflow opposes it (R102, R103, R105). -/
def Obligations.CoastAndRestExpire : Prop :=
  ∀ (n : Node) (q : List Instr) (g : Fin 4),
    (n.fans.groups[g].state = .stopping → n.fans.groups[g].coast.isSome = true →
      (n.held = true ∨
        (n.fans.groups[g].pending.getD (n.effectiveTarget g)).stage = 0) →
      exec (.coastTimerExpiry g) ⟨n, q⟩ = .next ⟨{ n with fans :=
        { n.fans with groups := upd n.fans.groups g fun f =>
          { f with state := .off, coast := none,
                   rest := Timer.seconds n.setups[g].config.restMin,
                   pending := if n.held = true then f.pending else none } } }, q⟩) ∧
    (∀ t : Target, n.fans.groups[g].state = .off → n.fans.groups[g].rest.isSome = true →
      n.fans.groups[g].pending = some t → n.held = false →
      n.setups[g].config.needed t.stage ≠ 0 → n.opposed g t.direction = false →
      n.fans.slot.isSome = true →
      exec (.restTimerExpiry g) ⟨n, q⟩ = .next ⟨{ n with fans :=
        { n.fans with
          groups := upd n.fans.groups g fun f =>
            { f with state := .queued, rest := none, pending := none, windmill := none },
          queue := joinQueue n.fans.queue
            ⟨g, .start, t.authority, n.setups[g].config.current t.stage⟩ } }, q⟩)

/-- A run_min timer that expires over a pending stop takes the group to STOPPING with its coast started
(R108, R111). A windmill timer that expires takes the group to QUEUED, where its entry joins while the
slot is held (R104, R105); the entry is formed from the effective target last presented to the group, which
is the model's reading (log entries 14 and 36). -/
def Obligations.RunMinAndWindmillExpire : Prop :=
  ∀ (n : Node) (q : List Instr) (g : Fin 4),
    (∀ t : Target, n.fans.groups[g].state = .running → n.fans.groups[g].runMin.isSome = true →
      n.fans.groups[g].pending = some t → n.held = false → t.stage = 0 →
      ∃ m : Node, exec (.runMinTimerExpiry g) ⟨n, q⟩ = .next ⟨m, q⟩ ∧
        (let f := m.fans.groups[g]
         f.state = .stopping ∧ f.fwd = false ∧ f.rev = false ∧ f.high = false ∧ f.stage = 0 ∧
           f.leg = none ∧ f.pending = none ∧ f.runMin = none ∧
           f.coast = Timer.seconds n.setups[g].config.coastTime) ∧
        m = { n with fans := m.fans, reports := m.reports }) ∧
    (n.fans.groups[g].state = .windmillWait → n.fans.groups[g].windmill.isSome = true →
      n.held = false → n.fans.slot.isSome = true →
      ∃ m : Node, exec (.windmillTimerExpiry g) ⟨n, q⟩ = .next ⟨m, q⟩ ∧
        m.fans =
          { n.fans with
            groups := upd n.fans.groups g fun f => { f with state := .queued, windmill := none },
            queue := joinQueue n.fans.queue
              ⟨g, .start, n.fans.groups[g].presented.authority,
                n.setups[g].config.current n.fans.groups[g].presented.stage⟩ } ∧
        m = { n with fans := m.fans, reports := m.reports })

/-- Edges of a group's contacts. A run feedback that turns true in STARTING with no target pending takes
the group to RUNNING with its outputs as they stand, starts run_min and frees the slot; no other group
changes while none waits (R107, R92). A run feedback that goes false in RUNNING trips the group with
FEEDBACK_LOST, and an overload contact that turns true in STARTING or RUNNING trips it with OVERLOAD:
outputs off, no leg held, its queue entry gone, coast started (R110, R112, R84). A LOCAL contact that turns
true locks a group that is not LOCKED, every timer of it stopped; one that goes false takes a LOCKED group
to STOPPING with its coast started, and nothing else changes (R114). -/
def Obligations.GroupContactsAct : Prop :=
  (∀ (n : Node) (q : List Instr) (g : Fin 4) (i : Fin 24), i.val = 3 * g.val →
    n.inputs[i].level = some false → n.fans.groups[g].state = .starting →
    n.fans.groups[g].pending = none → n.fans.queue = [] → n.fans.slot = some (g, .start) →
    ∃ m : Node, exec (.debouncedLevelChange i true) ⟨n, q⟩ = .next ⟨m, q⟩ ∧
      m.fans =
        { n.fans with
          groups := upd n.fans.groups g fun f =>
            { f with state := .running, start := none,
                     runMin := Timer.seconds n.setups[g].config.runMin },
          slot := none } ∧
      m = { n with inputs := m.inputs, fans := m.fans, reports := m.reports }) ∧
  (∀ (n : Node) (q : List Instr) (g : Fin 4) (i : Fin 24) (v : Bool) (c : TripCause),
    n.inputs[i].level = some !v →
    ((i.val = 3 * g.val ∧ v = false ∧ c = .feedbackLost ∧ n.fans.groups[g].state = .running) ∨
      (i.val = 3 * g.val + 1 ∧ v = true ∧ c = .overload ∧
        (n.fans.groups[g].state = .starting ∨ n.fans.groups[g].state = .running))) →
    ∃ m : Node, exec (.debouncedLevelChange i v) ⟨n, q⟩ = .next ⟨m, q⟩ ∧
      (let f := m.fans.groups[g]
       f.state = .tripped ∧ f.tripCause = some c ∧ f.fwd = false ∧ f.rev = false ∧
         f.high = false ∧ f.stage = 0 ∧ f.leg = none ∧ f.pending = none ∧ f.start = none ∧
         f.stageUp = none ∧ f.runMin = none ∧
         f.coast = Timer.seconds n.setups[g].config.coastTime) ∧
      (∀ e ∈ m.fans.queue, e.group ≠ g) ∧
      m = { n with inputs := m.inputs, fans := m.fans, reports := m.reports }) ∧
  (∀ (n : Node) (q : List Instr) (g : Fin 4) (i : Fin 24), i.val = 3 * g.val + 2 →
    (n.inputs[i].level = some false → n.fans.groups[g].state ≠ .locked →
      ∃ m : Node, exec (.debouncedLevelChange i true) ⟨n, q⟩ = .next ⟨m, q⟩ ∧
        (let f := m.fans.groups[g]
         f.state = .locked ∧ f.tripCause = none ∧ f.fwd = false ∧ f.rev = false ∧
           f.high = false ∧ f.stage = 0 ∧ f.leg = none ∧ f.pending = none ∧ f.start = none ∧
           f.stageUp = none ∧ f.runMin = none ∧ f.coast = none ∧ f.rest = none ∧
           f.windmill = none) ∧
        (∀ e ∈ m.fans.queue, e.group ≠ g) ∧
        m = { n with inputs := m.inputs, fans := m.fans, reports := m.reports }) ∧
    (n.inputs[i].level = some true → n.fans.groups[g].state = .locked →
      ∃ m : Node, exec (.debouncedLevelChange i false) ⟨n, q⟩ = .next ⟨m, q⟩ ∧
        m.fans =
          { n.fans with groups := upd n.fans.groups g fun f =>
            { f with state := .stopping,
                     coast := Timer.seconds n.setups[g].config.coastTime } } ∧
        m = { n with inputs := m.inputs, fans := m.fans }))

/-! ### Escape doors -/

/-- The five timers of a door. A jam timer that expires in RELEASED takes the door to JAMMED, clears
REQUEST and de-energises ASSIST (R127). A relatch timer that expires energises HOLD: the door is SECURED
where LATCHED is true, and in relatch wait otherwise (R128). A left-open timer that expires is idle from
then on; an assist-tail timer that expires de-energises ASSIST; a fault timer that expires puts the door
in FAULT with HOLD and ASSIST de-energised, its timers stopped and DEFAULT among its causes (R129, R131,
R132). The other door keeps its place. -/
def Obligations.DoorTimersExpire : Prop :=
  (∀ (n : Node) (q : List Instr) (d : Fin 2), n.doors[d].state = .released →
    (n.doors[d].jam.isSome = true →
      ∃ m : Node, exec (.jamTimerExpiry d) ⟨n, q⟩ = .next ⟨m, q⟩ ∧
        (let x := m.doors[d]
         x.state = .jammed ∧ x.causes = { n.doors[d].causes with request := false } ∧
           x.assist = false ∧ x.hold = false ∧ x.jam = none ∧ x.config = n.doors[d].config) ∧
        (∀ j : Fin 2, j ≠ d → m.doors[j] = n.doors[j]) ∧
        m = { n with doors := m.doors, fans := m.fans, reports := m.reports }) ∧
    (n.doors[d].relatch.isSome = true →
      ∃ m : Node, exec (.relatchTimerExpiry d) ⟨n, q⟩ = .next ⟨m, q⟩ ∧
        m.doors[d] =
          (if (n.doorEnv d).latched = some true then
            { n.doors[d] with relatch := none, hold := true, state := .secured,
                              relatchWait := false }
          else { n.doors[d] with relatch := none, hold := true, relatchWait := true }) ∧
        (∀ j : Fin 2, j ≠ d → m.doors[j] = n.doors[j]) ∧
        m = { n with doors := m.doors, fans := m.fans, reports := m.reports })) ∧
  (∀ (n : Node) (q : List Instr) (d : Fin 2),
    (n.doors[d].leftOpen.isSome = true →
      ∃ m : Node, exec (.leftOpenTimerExpiry d) ⟨n, q⟩ = .next ⟨m, q⟩ ∧
        m.doors = upd n.doors d (fun x => { x with leftOpen := none }) ∧
        m = { n with doors := m.doors, fans := m.fans, reports := m.reports }) ∧
    (n.doors[d].assistTail.isSome = true →
      ∃ m : Node, exec (.assistTailTimerExpiry d) ⟨n, q⟩ = .next ⟨m, q⟩ ∧
        m.doors = upd n.doors d (fun x => { x with assistTail := none, assist := false }) ∧
        m = { n with doors := m.doors, fans := m.fans, reports := m.reports }) ∧
    (n.doors[d].faultTimer.isSome = true →
      ∃ m : Node, exec (.faultTimerExpiry d) ⟨n, q⟩ = .next ⟨m, q⟩ ∧
        (let x := m.doors[d]
         x.state = .fault ∧ x.hold = false ∧ x.assist = false ∧ x.causes.dflt = true ∧
           x.jam = none ∧ x.relatch = none ∧ x.leftOpen = none ∧ x.assistTail = none ∧
           x.faultTimer = none ∧ x.causes.request = n.doors[d].causes.request ∧
           x.causes.order = n.doors[d].causes.order ∧ x.config = n.doors[d].config) ∧
        (∀ j : Fin 2, j ≠ d → m.doors[j] = n.doors[j]) ∧
        m = { n with doors := m.doors, fans := m.fans, reports := m.reports }))

/-- Edges of CLOSED and LATCHED (the edges of PUSH stand in LevelChangeDelivered). A leaf that leaves its
frame takes a SECURED, RELEASED or JAMMED door to OPEN, with HOLD de-energised and the left-open
timer started (R126 to R130). A leaf that returns completes the passage and takes an OPEN door to
RELEASED where a cause is left, and where none is left, with its relatch timer started, if LATCHED has been
read and the delay is not 0 (R128, R129). A SECURED door that loses its seat waits for it, and
a door in relatch wait that is seated is SECURED (R126, R128). A contact pair that comes about outside
FAULT starts the fault timer, and one that ends clears it; a door leaves FAULT when its pair ends, to
OPEN where CLOSED is false, and to RELEASED where CLOSED is true and DEFAULT stays or REQUEST stands (R131).
The other door keeps its place. -/
def Obligations.DoorContactsAct : Prop :=
  ∀ (n : Node) (q : List Instr) (d : Fin 2) (i : Fin 24) (v : Bool), n.inputs[i].level = some !v →
    (i.val = 12 + 3 * d.val ∨ i.val = 13 + 3 * d.val) →
    let x := n.doors[d]
    let closed := i.val = 12 + 3 * d.val
    ∃ m : Node, exec (.debouncedLevelChange i v) ⟨n, q⟩ = .next ⟨m, q⟩ ∧
      (let y := m.doors[d]
       (closed → v = false → x.state = .secured ∨ x.state = .released ∨ x.state = .jammed →
          y.state = .opened ∧ y.hold = false ∧ y.relatchWait = false ∧ y.jam = none ∧
            y.relatch = none ∧ y.leftOpen = Timer.seconds x.config.leftOpen ∧ y.causes = x.causes) ∧
        (closed → v = true → x.state = .opened →
          y.causes = { x.causes with request := false } ∧ y.leftOpen = none ∧
            y.assistTail = none ∧ y.assist = false ∧
            (y.causes.isEmpty = false → y.state = .released ∧ y.relatch = x.relatch) ∧
            (y.causes.isEmpty = true → (n.doorEnv d).latched.isSome = true →
              x.config.relatchDelay ≠ 0 →
              y.state = .released ∧ y.relatch = Timer.seconds x.config.relatchDelay)) ∧
        (¬ closed → v = false → x.state = .secured → (n.doorEnv d).closed = some true →
          y.state = .released ∧ y.relatchWait = true ∧ y.hold = x.hold) ∧
        (¬ closed → v = true → x.state = .released → x.relatchWait = true →
          y.state = .secured ∧ y.relatchWait = false ∧ y.hold = x.hold) ∧
        (x.state ≠ .fault → y.faultTimer =
          if (closed ∧ v = false ∧ (n.doorEnv d).latched = some true) ∨
            (¬ closed ∧ v = true ∧ (n.doorEnv d).closed = some false) then some 100 else none) ∧
        (x.state = .fault → closed → v = true → (n.held = true ∨ x.causes.request = true) →
          y.state = .released ∧ y.causes.dflt = n.held) ∧
        (x.state = .fault → ¬ closed → v = false → (n.doorEnv d).closed = some false →
          y.state = .opened ∧ y.causes.dflt = n.held)) ∧
      (∀ j : Fin 2, j ≠ d → m.doors[j] = n.doors[j]) ∧
      m = { n with inputs := m.inputs, doors := m.doors, fans := m.fans, reports := m.reports }

/-! ### Zones -/

/-- A ZONE_ORDER whose body passes, at a BOUND entry with its arrival side as input side, sets the mode
fields and leaves the rest of the entry, and the other entries, as they were (R138 to R140). The local
outcome is that of the affected groups at the end of the presentation (R141). With a reply requested,
forward yes and a budget of at least 4 a record waits with the budget as its timer, and in every other case
no record is left (R142 to R144). An entry that forwards passes the order on, with a reply requested and a
budget less by 2 where the record waits, and with neither where it does not. Out of the order side go, in
this order, the SUPERSEDED final of an old record of that side, the non-final reply of a local nack and a
final reply sent at once (R142 to R144, R150). -/
def Obligations.ZoneOrderAccepted : Prop :=
  ∀ (n : Node) (q : List Instr) (side : Side) (header : Header) (body : List Byte)
    (o : OrderBody) (z : Fin 32),
    n.Hears side (header.telegram .zoneOrder .zone body) → orderBody body = some o →
    header.target.toNat = z.val → n.zones[z].state = .bound → n.zones[z].inputSide = side →
    ∃ (m : Node) (outcome : Option ZoneOutcome),
      exec (.zoneOrder side header body) ⟨n, q⟩ = .next ⟨m, q⟩ ∧
      m = { n with zones := m.zones, line := m.line, fans := m.fans, doors := m.doors,
                   reports := m.reports } ∧
      (let e := n.zones[z]
       let ordered (e : Zone) : Zone :=
         { e with
           mode := o.mode, modeDirection := o.direction, modeStage := o.stage,
           normalDirection := if o.mode = .normal then o.direction else e.normalDirection,
           modeSince := if e.mode = o.mode then e.modeSince else n.time.uptime }
       let presented : Node := { n with zones := upd n.zones z ordered }
       let affected (g : Fin 4) : Bool :=
         n.setups[g].config.zone == some z &&
           (o.mode == .quiet || (o.mode == .fire && !n.setups[g].config.fireExempt))
       let unavailable (g : Fin 4) : Bool :=
         m.fans.groups[g].state == .tripped || m.fans.groups[g].state == .locked
       let awaited := e.forward = true ∧ 4 ≤ o.budget
       let r : Record :=
         { tag := header.tag, side := side, localOutcome := outcome, forwardOutcome := .ok,
           applied := if outcome = some .ok then 1 else 0,
           failed := if outcome = some .ok ∨ outcome = none then 0 else 1,
           untracked := e.forward && decide (o.budget < 4),
           ackWait := if awaited then some o.budget else none }
       let reply (tag : Byte) (flags : Nat) (x : ZoneOutcome) (applied failed : Nat) : Queued :=
         ⟨{ kind := .zoneReply, cls := .alarm, route := .toEnd, hop := 0, target := 0,
            origin := n.idByte, tag := tag,
            body := [b8 z.val, b8 flags, b8 (outcomeCode x), n.idByte, b8 applied, b8 failed] },
           .here⟩
       outcome =
           (if e.equipped = false then none
           else if ∃ g : Fin 4, affected g = true ∧ unavailable g = true then
             some .groupUnavailable
           else if ∃ g : Fin 4, affected g = true ∧ g ∈ (presented.fanRun FanRun.present).short then
             some .supplyShort
           else some .ok) ∧
         m.zones[z] =
           { ordered e with record := if o.reply = true ∧ awaited then some r else none } ∧
         (∀ y : Fin 32, y ≠ z → m.zones[y] = n.zones[y]) ∧
         ((∀ old ∈ e.record, old.side = side) →
           (e.forward = false → m.side side.other = n.side side.other) ∧
           (e.forward = true → n.isUp side.other = true →
             (n.side side.other).hasRoom header.cls = true →
             m.side side.other = (n.side side.other).join
               ⟨{ header.telegram .zoneOrder .zone (body.take 3 ++
                    (if o.reply = true ∧ awaited then 1 :: put16 (o.budget - 2) else [0, 0, 0])) with
                  hop := header.hop + 1 }, .forwarded side⟩) ∧
           (n.validId = true → (n.side side).alarm.length ≤ 3 →
             m.side side =
               (let u := (n.loadSilence side).side side
                let u := match e.record with
                  | some old => u.join (reply old.tag (1 + 2 * flag old.untracked)
                      (old.finalOutcome (some .superseded)) old.applied old.failed)
                  | none => u
                let u := match outcome with
                  | some x =>
                    if o.reply = true ∧ x ≠ .ok then u.join (reply header.tag 0 x 0 1) else u
                  | none => u
                if o.reply = true ∧ ¬ awaited then
                  u.join (reply header.tag (1 + 2 * flag r.untracked) (r.finalOutcome none) r.applied
                    r.failed)
                else u))))

/-- A ZONE_ORDER that asks for a reply is refused at once with ZONE_UNBOUND by an entry that is not BOUND
and with WRONG_SIDE by one bound from the other side, at a node with a valid strap value; one that asks for
none, or whose body fails, is discarded (R139). -/
def Obligations.ZoneOrderRefused : Prop :=
  ∀ (n : Node) (q : List Instr) (side : Side) (header : Header) (body : List Byte) (z : Fin 32),
    n.Hears side (header.telegram .zoneOrder .zone body) → header.target.toNat = z.val →
    (orderBody body = none →
      exec (.zoneOrder side header body) ⟨n, q⟩ = .next ⟨n.loadSilence side, q⟩) ∧
    (∀ o, orderBody body = some o → n.zones[z].state ≠ .bound ∨ n.zones[z].inputSide ≠ side →
      (o.reply = false →
        exec (.zoneOrder side header body) ⟨n, q⟩ = .next ⟨n.loadSilence side, q⟩) ∧
      (o.reply = true → n.validId = true →
        exec (.zoneOrder side header body) ⟨n, q⟩ = .next ⟨(n.loadSilence side).sendTo side
          { kind := .zoneReply, cls := .alarm, route := .toEnd, hop := 0, target := 0,
            origin := n.idByte, tag := header.tag,
            body := [b8 z.val, 1, if n.zones[z].state ≠ .bound then 4 else 5, n.idByte, 0, 0] },
          q⟩))

/-- A ZONE_REPLY that reaches an entry's record from beyond: one of another tag leaves every entry as it
was and goes no further, a final one with report ZONE_LATE_REPLY (R146); a matching non-final one worsens the
forward outcome and nothing else of the record, and is relayed (R147); a matching final one ends the record,
and the node's own final reply goes out of the order side, with the counts summed, each up to 126, the worse
forward outcome and the untracked flag of either (R145, R148, R150). -/
def Obligations.ZoneReplyTaken : Prop :=
  ∀ (n : Node) (q : List Instr) (side : Side) (both : Bool) (header : Header) (body : List Byte)
    (b : ReplyBody) (z : Fin 32) (r : Record),
    n.Hears side (header.telegram .zoneReply (endRoute both) body) → replyBody body = some b →
    b.zone = z.val → n.zones[z].record = some r → side = r.side.other →
    let worse : Record := { r with forwardOutcome := r.forwardOutcome.worse b.outcome }
    let last : Record := { worse with untracked := r.untracked || b.untracked }
    ∃ m : Node, exec (.zoneReply side both header body) ⟨n, q⟩ = .next ⟨m, q⟩ ∧
      (header.tag ≠ r.tag → m.zones = n.zones ∧ m.line = (n.loadSilence side).line ∧
        m.reports =
          if b.final = true then
            (n.raise { kind := .zoneLateReply, object := z.val, severity := .info,
                       detail := 256 * header.tag.toNat + b.reporter }).reports
          else n.reports) ∧
      (header.tag = r.tag → b.final = false →
        m.zones = (upd n.zones z fun e => { e with record := some worse }) ∧
          (n.isUp r.side = true → (n.side r.side).hasRoom header.cls = true →
            m.side r.side = (n.side r.side).join
              ⟨{ header.telegram .zoneReply (endRoute both) body with hop := header.hop + 1 },
                .forwarded side⟩)) ∧
      (header.tag = r.tag → b.final = true →
        m.zones = (upd n.zones z fun e => { e with record := none }) ∧
          m.side side = (n.loadSilence side).side side ∧
          (n.validId = true → n.isUp r.side = true → (n.side r.side).hasRoom .alarm = true →
            m.side r.side = (n.side r.side).join
              ⟨{ kind := .zoneReply, cls := .alarm, route := .toEnd, hop := 0, target := 0,
                 origin := n.idByte, tag := r.tag,
                 body := [b8 z.val, b8 (1 + 2 * flag last.untracked),
                          b8 (outcomeCode (last.finalOutcome none)), n.idByte,
                          b8 (min 126 (r.applied + b.applied)),
                          b8 (min 126 (r.failed + b.failed))] }, .here⟩)) ∧
      m = { n with zones := m.zones, line := m.line, reports := m.reports }

/-- The outcome of a final reply is the worst of those that apply, by the ranking of R150, and OK where
none applies. -/
def Obligations.FinalOutcomeWorst : Prop :=
  ∀ (r : Record) (cause : Option ZoneOutcome),
    let apply := r.localOutcome.toList ++ [r.forwardOutcome] ++
      (if r.untracked = true then [ZoneOutcome.budgetShort] else []) ++ cause.toList
    r.finalOutcome cause ∈ ZoneOutcome.ok :: apply ∧
      ∀ x ∈ apply, x.badness ≤ (r.finalOutcome cause).badness

/-- A BIND for this node makes its entry BOUND at once, the last of its zone: a FREE entry, if a leg covers
its reserve (R153, R154, R156); an entry that is BOUND on the arrival side; and, with TAKEOVER, one that is
BOUND on the other side while that side is DOWN (R161). A BOUND entry keeps its local value, its mode and
its record. The other entries stay. -/
def Obligations.BindAtTarget : Prop :=
  ∀ (n : Node) (q : List Instr) (side : Side) (header : Header) (body : List Byte) (b : BindBody)
    (z : Fin 32),
    n.Addressed side (header.telegram .bind .path body) → bindBody body = some b → b.zone = z.val →
    (∀ F : Fans, n.zones[z].state = .free → n.fans.reserve z (n.reserveSum z) = some F →
      ∃ m : Node, exec (.bind side header body) ⟨n, q⟩ = .next ⟨m, q⟩ ∧
        m.zones = (upd n.zones z fun e =>
          { e with state := .bound, boundBefore := false, inputSide := side, forward := false,
                   equipped := n.hasLocal z, bindTag := header.tag, lapseNote := none }) ∧
        m = { n with zones := m.zones, fans := m.fans, doors := m.doors, line := m.line,
                     reports := m.reports }) ∧
    (n.zones[z].state = .bound →
      n.zones[z].inputSide = side ∨
        (b.takeover = true ∧ (n.side n.zones[z].inputSide).state = .down) →
      ∃ m : Node, exec (.bind side header body) ⟨n, q⟩ = .next ⟨m, q⟩ ∧
        m.zones = (upd n.zones z fun e =>
          { e with boundBefore := false, inputSide := side, forward := false,
                   bindTag := header.tag, lapseNote := none }) ∧
        m = { n with zones := m.zones, fans := m.fans, doors := m.doors, line := m.line,
                     reports := m.reports })

/-- A BIND on its way, from its activating hop on, puts its entry in BINDING with its timer started and goes
on out of the opposite side: a FREE entry, if a leg covers the reserve it takes; and an entry that is BOUND
on the arrival side, whose side and forward are saved while its reserve, mode and record stay (R152 to
R155). -/
def Obligations.BindEntered : Prop :=
  ∀ (n : Node) (q : List Instr) (side : Side) (header : Header) (body : List Byte) (b : BindBody)
    (z : Fin 32),
    n.Hears side (header.telegram .bind .path body) → bindBody body = some b →
    b.zone = z.val → n.validId = true → header.hop + 1 ≠ header.target →
    b.activating ≤ header.hop.toNat + 1 → n.isUp side.other = true →
    (n.side side.other).hasRoom header.cls = true →
    (∀ F : Fans, n.zones[z].state = .free → n.fans.reserve z (n.reserveSum z) = some F →
      exec (.bind side header body) ⟨n, q⟩ = .next
        ⟨(({ (n.loadSilence side) with
            fans := F,
            zones := upd n.zones z fun e =>
              { e with state := .binding, boundBefore := false, inputSide := side,
                       forward := false, equipped := n.hasLocal z, bindTag := header.tag,
                       bindWait := Timer.seconds n.params.bindWait, lapseNote := none } } : Node)
          ).modSide side.other fun u =>
            u.join ⟨{ header.telegram .bind .path body with hop := header.hop + 1 },
              .forwarded side⟩, q⟩) ∧
    (n.zones[z].state = .bound → n.zones[z].inputSide = side →
      exec (.bind side header body) ⟨n, q⟩ = .next
        ⟨(({ (n.loadSilence side) with
            zones := upd n.zones z fun e =>
              { e with state := .binding, boundBefore := true, forward := false,
                       savedInputSide := some side, savedForward := some e.forward,
                       bindTag := header.tag, bindWait := Timer.seconds n.params.bindWait,
                       lapseNote := none } } : Node)
          ).modSide side.other fun u =>
            u.join ⟨{ header.telegram .bind .path body with hop := header.hop + 1 },
              .forwarded side⟩, q⟩)

/-- A BIND that fails a check at an activating node changes no entry and no account and is answered with the
outcome of the first check that fails, out of the arrival side: SIDE_DOWN where the BIND is not for this node
and the opposite side is not UP; BAD_ZONE for a zone above 31; WRONG_SIDE for an entry that is BINDING, or
BOUND on the other side without TAKEOVER or while that side is not DOWN; SUPPLY_SHORT for a reserve no leg
covers (R153, R161). -/
def Obligations.BindRefused : Prop :=
  ∀ (n : Node) (q : List Instr) (side : Side) (header : Header) (body : List Byte) (b : BindBody)
    (code : Byte),
    n.Hears side (header.telegram .bind .path body) → bindBody body = some b →
    n.validId = true →
    (header.hop + 1 ≠ header.target ∧ b.activating ≤ header.hop.toNat + 1 ∧
        n.isUp side.other = false ∧ code = 1) ∨
      ((header.hop + 1 = header.target ∨
          (b.activating ≤ header.hop.toNat + 1 ∧ n.isUp side.other = true)) ∧
        ((32 ≤ b.zone ∧ code = 2) ∨
          (∃ z : Fin 32, b.zone = z.val ∧ code = 3 ∧ (n.zones[z].state = .binding ∨
            (n.zones[z].state = .bound ∧ n.zones[z].inputSide ≠ side ∧
              (b.takeover = false ∨ (n.side n.zones[z].inputSide).state ≠ .down)))) ∨
          (∃ z : Fin 32, b.zone = z.val ∧ code = 4 ∧ n.zones[z].state = .free ∧
            n.fans.reserve z (n.reserveSum z) = none))) →
    exec (.bind side header body) ⟨n, q⟩ = .next ⟨(n.loadSilence side).sendTo side
      { kind := .bindReply, cls := .control, route := .toEnd, hop := 0, target := 0,
        origin := n.idByte, tag := header.tag, body := [b8 b.zone, code, n.idByte] }, q⟩

/-- A BIND_REPLY that matches a BINDING entry: OK makes it BOUND with forward yes; any other outcome takes
an entry that was BOUND before back to its saved side and forward, and frees one that was not, with its
reserve (R157, R158). A reply that matches no entry but the lapse note of its zone clears the note and
passes on, an OK reply rewritten to BIND_LAPSED of this node (R159). The other entries stay. That a freed
entry keeps its lapse note is the model's reading (log entry 35). -/
def Obligations.BindReplyTaken : Prop :=
  ∀ (n : Node) (q : List Instr) (side : Side) (both : Bool) (header : Header) (zb ob id : Byte)
    (z : Fin 32),
    n.Hears side (header.telegram .bindReply (endRoute both) [zb, ob, id]) → n.validId = true →
    zb.toNat = z.val → ob.toNat ≤ 5 →
    (n.zones[z].state = .binding → n.zones[z].bindTag = header.tag →
      side = n.zones[z].inputSide.other →
      ∃ m : Node, exec (.bindReply side both header [zb, ob, id]) ⟨n, q⟩ = .next ⟨m, q⟩ ∧
        (ob = 0 → m.zones = upd n.zones z fun e =>
          { e with state := .bound, boundBefore := false, forward := true, savedInputSide := none,
                   savedForward := none, bindWait := none }) ∧
        (ob ≠ 0 → n.zones[z].boundBefore = true → m.zones = upd n.zones z fun e =>
          { e with state := .bound, boundBefore := false,
                   inputSide := e.savedInputSide.getD e.inputSide,
                   forward := e.savedForward.getD e.forward, savedInputSide := none,
                   savedForward := none, bindWait := none }) ∧
        (ob ≠ 0 → n.zones[z].boundBefore = false → m.fans.reserves[z] = {} ∧
          m.zones = upd n.zones z fun e => { lapseNote := e.lapseNote }) ∧
        m = { n with zones := m.zones, fans := m.fans, doors := m.doors, line := m.line,
                     reports := m.reports }) ∧
    (n.zones[z].state ≠ .binding → n.zones[z].lapseNote = some (header.tag, side) →
      n.isUp side.other = true → (n.side side.other).hasRoom header.cls = true →
      exec (.bindReply side both header [zb, ob, id]) ⟨n, q⟩ = .next
        ⟨(({ (n.loadSilence side) with
            zones := upd n.zones z fun e => { e with lapseNote := none } } : Node)
          ).modSide side.other fun u =>
            u.join ⟨{ header.telegram .bindReply (endRoute both)
                [zb, if ob = 0 then 5 else ob, if ob = 0 then n.idByte else id] with
                hop := header.hop + 1 }, .forwarded side⟩, q⟩)

/-- A TEARDOWN at a BOUND entry on its input side, and an UNBIND there from its activating hop on, take the
entry to its FREE values and its reserve with it; an UNBIND one hop short of it takes forward away and
nothing else (R136, R162, R163). That the freed entry keeps its lapse note is the model's reading (log
entry 35). -/
def Obligations.EntryFreed : Prop :=
  ∀ (n : Node) (q : List Instr) (side : Side) (header : Header) (z : Fin 32),
    n.zones[z].state = .bound → n.zones[z].inputSide = side →
    (n.Hears side (header.telegram .teardown .zone []) → header.target.toNat = z.val →
      ∃ m : Node, exec (.teardown side header []) ⟨n, q⟩ = .next ⟨m, q⟩ ∧
        m.zones = (upd n.zones z fun e => { lapseNote := e.lapseNote }) ∧
        m.fans.reserves[z] = {} ∧
        m = { n with zones := m.zones, fans := m.fans, doors := m.doors, line := m.line,
                     reports := m.reports }) ∧
    (∀ zb a : Byte, n.Hears side (header.telegram .unbind .path [zb, a]) → n.validId = true →
      zb.toNat = z.val → 1 ≤ a.toNat → a.toNat ≤ 126 → a.toNat ≤ header.hop.toNat + 2 →
      ∃ m : Node, exec (.unbind side header [zb, a]) ⟨n, q⟩ = .next ⟨m, q⟩ ∧
        (a.toNat = header.hop.toNat + 2 → m.fans = n.fans ∧ m.doors = n.doors ∧
          m.zones = upd n.zones z fun e => { e with forward := false }) ∧
        (a.toNat ≤ header.hop.toNat + 1 → m.fans.reserves[z] = {} ∧
          m.zones = upd n.zones z fun e => { lapseNote := e.lapseNote }) ∧
        m = { n with zones := m.zones, fans := m.fans, doors := m.doors, line := m.line,
                     reports := m.reports })

/-- An ack-wait timer that expires ends its record (R149). A bind-wait timer that expires undoes the bind
and leaves a lapse note with the bind's tag and the side its reply would come from (R158, R160). -/
def Obligations.ZoneTimersExpire : Prop :=
  ∀ (n : Node) (q : List Instr) (z : Fin 32),
    (∀ r, n.zones[z].record = some r → r.ackWait.isSome = true →
      ∃ m : Node, exec (.ackWaitTimerExpiry z) ⟨n, q⟩ = .next ⟨m, q⟩ ∧
        m.zones = (upd n.zones z fun e => { e with record := none }) ∧
        m = { n with zones := m.zones, line := m.line, reports := m.reports }) ∧
    (n.zones[z].bindWait.isSome = true →
      ∃ m : Node, exec (.bindWaitTimerExpiry z) ⟨n, q⟩ = .next ⟨m, q⟩ ∧
        (n.zones[z].boundBefore = true → m.zones = upd n.zones z fun e =>
          { e with state := .bound, boundBefore := false,
                   inputSide := e.savedInputSide.getD e.inputSide,
                   forward := e.savedForward.getD e.forward, savedInputSide := none,
                   savedForward := none, bindWait := none,
                   lapseNote := some (e.bindTag, e.inputSide.other) }) ∧
        (n.zones[z].boundBefore = false → m.fans.reserves[z] = {} ∧ m.zones =
          upd n.zones z fun e => { lapseNote := some (e.bindTag, e.inputSide.other) }) ∧
        m = { n with zones := m.zones, fans := m.fans, doors := m.doors,
                     reports := m.reports })

/-! ### Orders -/

/-- An accepted FAN_SET sets the order target of its group to the stage and direction it carries, and an
accepted FAN_RELEASE removes it; no other group's set-up changes (R97, R172). An accepted TRIP_RESET clears
the trip cause; a group whose coast timer still runs enters STOPPING with it, and one whose coast timer has
expired enters OFF with its rest timer started, here where it is asked for stage 0, and no other group
changes (R113, R172). -/
def Obligations.GroupOrdersObeyed : Prop :=
  (∀ (n : Node) (q : List Instr) (side : Side) (header : Header) (obj p d : Byte) (g : Fin 4),
    obj.toNat = g.val →
    (∀ dir, n.Obeys side (orderTelegram header 0 obj p d) → p.toNat ≤ 2 →
      directionOf d.toNat = some dir →
      ∃ m : Node, exec (.fanSet side header obj p d) ⟨n, q⟩ = .next ⟨m, q⟩ ∧
        m.setups = (upd n.setups g fun s => { s with orderTarget := some (p.toNat, dir) }) ∧
        m = { n with setups := m.setups, fans := m.fans, line := m.line, reports := m.reports }) ∧
    (n.Obeys side (orderTelegram header 1 obj p d) →
      ∃ m : Node, exec (.fanRelease side header obj p d) ⟨n, q⟩ = .next ⟨m, q⟩ ∧
        m.setups = (upd n.setups g fun s => { s with orderTarget := none }) ∧
        m = { n with setups := m.setups, fans := m.fans, line := m.line, reports := m.reports })) ∧
  (∀ (n : Node) (q : List Instr) (side : Side) (header : Header) (obj a b : Byte) (g : Fin 4),
    obj.toNat = g.val → n.Obeys side (orderTelegram header 2 obj a b) →
    n.fans.groups[g].state = .tripped →
    (n.fans.groups[g].coast.isSome = true ∨ (n.effectiveTarget g).stage = 0) →
    ∃ m : Node, exec (.tripReset side header obj a b) ⟨n, q⟩ = .next ⟨m, q⟩ ∧
      m.fans =
        { n.fans with groups := upd n.fans.groups g fun f =>
          if f.coast.isSome = true then { f with state := .stopping, tripCause := none }
          else { f with state := .off, tripCause := none, pending := none,
                        rest := Timer.seconds n.setups[g].config.restMin } } ∧
      m = { n with fans := m.fans, line := m.line, reports := m.reports })

/-- An accepted DOOR_RELEASE adds ORDER to its door's cause set or removes it, and no other cause changes;
an accepted ALERT_CLEAR clears both alert latches and takes SUSPECT from both doors; an accepted
PUBLISH_NOW builds a SAMPLE if a channel is to be included, which joins the SAMPLE queue of each side that
is UP before the order's reply joins that of the arrival side (log entry 10), and leaves the publication
counter (R34, R36, R37, R40, R121, R124, R172, R173). -/
def Obligations.DoorAlertPublishObeyed : Prop :=
  ∀ (n : Node) (q : List Instr) (side : Side) (header : Header) (obj p b : Byte),
    (∀ (d : Fin 2) (on : Bool), n.Obeys side (orderTelegram header 3 obj p b) →
      obj.toNat = d.val → unflag p.toNat = some on →
      ∃ m : Node, exec (.doorRelease side header obj p b) ⟨n, q⟩ = .next ⟨m, q⟩ ∧
        m.doors[d].causes = { n.doors[d].causes with order := on } ∧
        (∀ j : Fin 2, j ≠ d → m.doors[j] = n.doors[j]) ∧
        m = { n with doors := m.doors, fans := m.fans, line := m.line, reports := m.reports }) ∧
    (n.Obeys side (orderTelegram header 4 obj p b) →
      ∃ m : Node, exec (.alertClear side header obj p b) ⟨n, q⟩ = .next ⟨m, q⟩ ∧
        m.sensors = { n.sensors with fireSuspect := false } ∧ m.nicheAlert = false ∧
        (∀ d : Fin 2, m.doors[d].causes.suspect = false) ∧
        m = { n with sensors := m.sensors, nicheAlert := m.nicheAlert, doors := m.doors,
                     fans := m.fans, line := m.line, reports := m.reports }) ∧
    (n.Obeys side (orderTelegram header 5 obj p b) →
      ∃ m : Node, exec (.publishNow side header obj p b) ⟨n, q⟩ = .next ⟨m, q⟩ ∧
                m.sensors =
          (if ∃ i : Fin 8, n.sensors.channels[i].included = true then
            { n.sensors with sampleSequence := n.sensors.sampleSequence + 1 }
          else n.sensors) ∧
        (let publish (u : SideUnit) : SideUnit :=
           if ∃ i : Fin 8, n.sensors.channels[i].included = true then
             u.join ⟨sampleTelegram n, .here⟩
           else u
         (n.isUp side.other = false → m.side side.other = n.side side.other) ∧
           (n.isUp side.other = true → (n.side side.other).hasRoom .sample = true →
             m.side side.other = publish (n.side side.other)) ∧
           ((n.side side).hasRoom .sample = true → (n.side side).hasRoom .control = true →
             m.side side = (publish ((n.loadSilence side).side side)).join
               ⟨{ kind := .orderReply, cls := .control, route := .toEnd, hop := 0, target := 0,
                  origin := n.idByte, tag := header.tag, body := [5, 0] }, .here⟩)) ∧
        m = { n with sensors := m.sensors, line := m.line, reports := m.reports })

/-! ### Service -/

/-- A READ of an object that its part starts within is answered OK with the object's bytes from 43 × part
on, at most 43 of them, from any origin, and changes nothing else (R174). -/
def Obligations.ReadServed : Prop :=
  ∀ (n : Node) (q : List Instr) (side : Side) (header : Header) (type idx part : Byte)
    (o : Object),
    n.Addressed side (serviceTelegram header 0 type idx part []) →
    objectOf type.toNat idx.toNat = some o → 43 * part.toNat < (n.objectBytes o).length →
    exec (.read side header type idx part) ⟨n, q⟩ = .next ⟨(n.loadSilence side).sendTo side
      { kind := .serviceReply, cls := .service, route := .toEnd, hop := 0, target := 0,
        origin := n.idByte, tag := header.tag,
        body := [0, type, idx, part, 0] ++
          ((n.objectBytes o).drop (43 * part.toNat)).take 43 }, q⟩

/-- A READ of the report queue status gives the number of entries, the number that are ALARM, the lost
flag, the sequence number and the uptime, and changes nothing; a WRITE of it is refused with DENIED
(R171). -/
def Obligations.ReportStatusServed : Prop :=
  ∀ n : Node,
    n.serviceRead 8 0 0 =
      { node := n, status := .ok,
        data := put8 n.reports.entries.length ++
          put8 (n.reports.entries.filter fun e => e.severity == .alarm).length ++
          putFlag n.reports.lost ++ [n.reports.sequence] ++ put32 n.time.uptime } ∧
    ∀ data : List Byte, n.serviceWrite 8 0 0 data = { node := n, status := .denied }

/-- START_OPERATION makes an UNCONFIGURED node OPERATIONAL and takes DEFAULT from each door that is not in
FAULT (R176). RESTART makes the node UNCONFIGURED, resets the parts listed here and keeps the group
machines with their queue, slot and draws, the inputs, the straps and the time (R180), with the side units
as its reply leaves them. That the report queue is empty even where that reply found no room is the model's
choice (log entry 48). -/
def Obligations.StartAndRestart : Prop :=
  ∀ (n : Node) (q : List Instr) (side : Side) (header : Header) (a b c : Byte),
    (n.Serves side (serviceTelegram header 2 a b c []) → n.runState = .unconfigured →
      ∃ m : Node, exec (.startOperation side header a b c) ⟨n, q⟩ = .next ⟨m, q⟩ ∧
        m.runState = .operational ∧
        (∀ d : Fin 2, n.doors[d].state ≠ .fault → m.doors[d].causes.dflt = false) ∧
        m = { n with runState := m.runState, fans := m.fans, doors := m.doors, line := m.line,
                     reports := m.reports }) ∧
    (n.Serves side (serviceTelegram header 3 a b c []) →
      ∃ m : Node, exec (.restart side header a b c) ⟨n, q⟩ = .next ⟨m, q⟩ ∧
        m.runState = .unconfigured ∧
        m.params = { permitWest := n.params.permitWest, permitEast := n.params.permitEast } ∧
        (∀ i : Fin 8, m.sensors.channels[i] = {}) ∧ m.sensors.fireSuspect = false ∧
        m.sensors.publicationCounter = 0 ∧ m.sensors.sampleSequence = 0 ∧
        (∀ i : Fin 16, m.contribution.entries[i] = {}) ∧ m.contribution.demand = 0 ∧
        (∀ z : Fin 32, m.zones[z] = {} ∧ m.fans.reserves[z] = {}) ∧ m.reports = {} ∧
        m.nicheAlert = false ∧
        (∀ g : Fin 4, m.setups[g] = { n.setups[g] with demandStage := 0 }) ∧
        m.fans.groups = n.fans.groups ∧ m.fans.queue = n.fans.queue ∧ m.fans.slot = n.fans.slot ∧
        (∀ l, (m.fans.leg l).capacity = (n.fans.leg l).capacity ∧
          (m.fans.leg l).available = (n.fans.leg l).available ∧
          (m.fans.leg l).drawn = (n.fans.leg l).drawn) ∧
        (∀ d : Fin 2, m.doors[d].causes =
          { request := n.doors[d].causes.request, order := n.doors[d].causes.order,
            dflt := true }) ∧
        m.line = ((n.loadSilence side).sendTo side
          { kind := .serviceReply, cls := .service, route := .toEnd, hop := 0, target := 0,
            origin := n.idByte, tag := header.tag, body := [3, a, b, c, 0] }).line ∧
        m.strap = n.strap ∧ m.inputs = n.inputs ∧ m.time = n.time)

/-- An accepted write of the node parameters, of an input profile or of a leg stores what it carries; a
write of a zone entry or of the report queue status changes nothing, whatever it carries, and is answered
with DENIED on its arrival side (R78, R119, R136, R171, R175). -/
def Obligations.PlainWritesStored : Prop :=
  ∀ (n : Node) (q : List Instr) (side : Side) (header : Header) (idx : Byte) (data : List Byte),
    (∀ p, n.Serves side (serviceTelegram header 1 0 0 0 data) → 7 ≤ data.length →
      Params.parse data = some p →
      ∃ m : Node, exec (.writeNodeParameters side header 0 0 data) ⟨n, q⟩ = .next ⟨m, q⟩ ∧
        m = { n with params := p, line := m.line, reports := m.reports }) ∧
    (∀ (i : Fin 24) (p : Input), n.Serves side (serviceTelegram header 1 6 idx 0 data) →
      idx.toNat = i.val → 5 ≤ data.length → n.inputs[i].write data = some p →
      ∃ m : Node, exec (.writeInputProfile side header idx 0 data) ⟨n, q⟩ = .next ⟨m, q⟩ ∧
        p = { n.inputs[i] with pull := p.pull, inverted := p.inverted, debounce := p.debounce,
                               edge := p.edge, action := p.action } ∧
        m = { n with inputs := n.inputs.set i p, line := m.line, reports := m.reports }) ∧
    (∀ l, n.Serves side (serviceTelegram header 1 5 idx 0 data) → legOf idx.toNat = some l →
      2 ≤ data.length → get16 data 0 ≤ 6000 →
      (n.fans.leg l).drawn + (n.fans.leg l).reserved ≤ get16 data 0 →
      ∃ m : Node, exec (.writeLeg side header idx 0 data) ⟨n, q⟩ = .next ⟨m, q⟩ ∧
        (m.fans.leg l).capacity = get16 data 0 ∧
        (n.fans.queue = [] →
          m.fans = n.fans.modLeg l fun r => { r with capacity := get16 data 0 }) ∧
        m = { n with fans := m.fans, line := m.line, reports := m.reports }) ∧
    (∀ object, n.Serves side (serviceTelegram header 1 (deniedType object) idx 0 data) →
      (objectOf (deniedType object).toNat idx.toNat).isSome = true →
      exec (.writeDenied side header object idx 0 data) ⟨n, q⟩ =
        .next ⟨(n.loadSilence side).sendTo side
          { kind := .serviceReply, cls := .service, route := .toEnd, hop := 0, target := 0,
            origin := n.idByte, tag := header.tag,
            body := [1, deniedType object, idx, 0, 4] }, q⟩)

/-- An accepted write of a channel stores its configuration and clears everything else of the channel, in
ACQUIRING or OFF as it is enabled or not (R5, R6), the last quality and the level-changed mark among it by
the model's reading (log entry 23); one of a group stores the record of a group in OFF that nothing asks to
run (R94, R95); one of a door stores its record (R122). The other records stay. -/
def Obligations.RecordWritesStored : Prop :=
  ∀ (n : Node) (q : List Instr) (side : Side) (header : Header) (idx : Byte) (data : List Byte),
    (∀ (i : Fin 8) (c : ChannelConfig), n.Serves side (serviceTelegram header 1 1 idx 0 data) →
      idx.toNat = i.val → 28 ≤ data.length → ChannelConfig.parse data = some c →
      n.compensationFits i c.compensation = true →
      ∃ m : Node, exec (.writeChannel side header idx 0 data) ⟨n, q⟩ = .next ⟨m, q⟩ ∧
        m.sensors.channels = n.sensors.channels.set i
          { config := c, state := if c.enabled = true then .acquiring else .off } ∧
        m.sensors = { n.sensors with channels := m.sensors.channels } ∧
        m = { n with sensors := m.sensors, fans := m.fans, line := m.line,
                     reports := m.reports }) ∧
    (∀ (g : Fin 4) (c : GroupConfig), n.Serves side (serviceTelegram header 1 3 idx 0 data) →
      idx.toNat = g.val → 29 ≤ data.length → GroupConfig.parse data = some c →
      n.airflowFits c.airflowChannel = true → n.groupInUse g = false →
      ∃ m : Node, exec (.writeGroup side header idx 0 data) ⟨n, q⟩ = .next ⟨m, q⟩ ∧
        m.setups = (upd n.setups g fun s => { s with config := c }) ∧
        m = { n with setups := m.setups, fans := m.fans, line := m.line, reports := m.reports }) ∧
    (∀ (d : Fin 2) (c : DoorConfig), n.Serves side (serviceTelegram header 1 4 idx 0 data) →
      idx.toNat = d.val → 11 ≤ data.length → DoorConfig.parse data = some c →
      n.pressureFits c.pressureChannel = true →
      ∃ m : Node, exec (.writeDoor side header idx 0 data) ⟨n, q⟩ = .next ⟨m, q⟩ ∧
        m.doors[d].config = c ∧ (∀ j : Fin 2, j ≠ d → m.doors[j] = n.doors[j]) ∧
        m = { n with doors := m.doors, fans := m.fans, line := m.line, reports := m.reports })

/-- An accepted write of a contribution entry stores source, channel and weight as written, with the state
part at its reset values, whatever stood there before, so that it counts nothing toward the demand; the
demand and the other entries stay, and no report is raised while the reply has room (R64, R65). -/
def Obligations.EntryWritten : Prop :=
  ∀ (n : Node) (q : List Instr) (side : Side) (header : Header) (idx : Byte) (data : List Byte)
    (i : Fin 16) (e : Entry),
    n.Serves side (serviceTelegram header 1 2 idx 0 data) → idx.toNat = i.val →
    3 ≤ data.length → Entry.parse data = some e → n.contribution.duplicate i e = false →
    ∃ m : Node, exec (.writeContributionEntry side header idx 0 data) ⟨n, q⟩ = .next ⟨m, q⟩ ∧
      m.contribution.entries = n.contribution.entries.set i
        { source := e.source, channel := get8 data 1, weight := get8 data 2, state := .empty,
          level := .normal, value := 0, age := 0 } ∧
      m.contribution = { n.contribution with entries := m.contribution.entries } ∧
      m.contribution.entries[i].contribution = 0 ∧
      sourceOf (get8 data 0) = some e.source ∧
      ((n.side side).hasRoom .service = true → m.reports = n.reports) ∧
      m = { n with contribution := m.contribution, line := m.line, reports := m.reports }
end

