-- ==== Sys2Proof/Laws/State.lean ====
section
/-!
SUPPORT. One lemma per field per named update of the state, each true by unfolding: the fields an
update leaves, and the field it changes.
-/

namespace Sys2Proof.Machine

variable {α : Type} {k : Nat}

/-! ### Banks -/

@[simp] theorem upd_self (v : Vector α k) (i : Fin k) (f : α → α) :
    (upd v i f)[i.val] = f v[i.val] := by
  simp [upd]

theorem upd_ne (v : Vector α k) (i j : Fin k) (f : α → α) (h : i ≠ j) :
    (upd v i f)[j.val] = v[j.val] := by
  have : i.val ≠ j.val := fun e => h (Fin.ext e)
  simp [upd, this]

/-! ### Node.modSide -/

@[simp] theorem Node.modSide_strap (n : Node) (s : Side) (f : SideUnit → SideUnit) : (n.modSide s f).strap = n.strap := rfl
@[simp] theorem Node.modSide_runState (n : Node) (s : Side) (f : SideUnit → SideUnit) : (n.modSide s f).runState = n.runState := rfl
@[simp] theorem Node.modSide_params (n : Node) (s : Side) (f : SideUnit → SideUnit) : (n.modSide s f).params = n.params := rfl
@[simp] theorem Node.modSide_time (n : Node) (s : Side) (f : SideUnit → SideUnit) : (n.modSide s f).time = n.time := rfl
@[simp] theorem Node.modSide_sensors (n : Node) (s : Side) (f : SideUnit → SideUnit) : (n.modSide s f).sensors = n.sensors := rfl
@[simp] theorem Node.modSide_contribution (n : Node) (s : Side) (f : SideUnit → SideUnit) : (n.modSide s f).contribution = n.contribution := rfl
@[simp] theorem Node.modSide_setups (n : Node) (s : Side) (f : SideUnit → SideUnit) : (n.modSide s f).setups = n.setups := rfl
@[simp] theorem Node.modSide_fans (n : Node) (s : Side) (f : SideUnit → SideUnit) : (n.modSide s f).fans = n.fans := rfl
@[simp] theorem Node.modSide_inputs (n : Node) (s : Side) (f : SideUnit → SideUnit) : (n.modSide s f).inputs = n.inputs := rfl
@[simp] theorem Node.modSide_nicheAlert (n : Node) (s : Side) (f : SideUnit → SideUnit) : (n.modSide s f).nicheAlert = n.nicheAlert := rfl
@[simp] theorem Node.modSide_doors (n : Node) (s : Side) (f : SideUnit → SideUnit) : (n.modSide s f).doors = n.doors := rfl
@[simp] theorem Node.modSide_zones (n : Node) (s : Side) (f : SideUnit → SideUnit) : (n.modSide s f).zones = n.zones := rfl
@[simp] theorem Node.modSide_reports (n : Node) (s : Side) (f : SideUnit → SideUnit) : (n.modSide s f).reports = n.reports := rfl

theorem Node.modSide_line (n : Node) (s : Side) (f : SideUnit → SideUnit) :
    (n.modSide s f).line = n.line.modSide s f := rfl

@[simp] theorem Node.modSide_side (n : Node) (s : Side) (f : SideUnit → SideUnit) :
    (n.modSide s f).side s = f (n.side s) := by cases s <;> rfl

@[simp] theorem Node.modSide_other (n : Node) (s : Side) (f : SideUnit → SideUnit) :
    (n.modSide s f).side s.other = n.side s.other := by cases s <;> rfl

/-! ### Node.modZone -/

@[simp] theorem Node.modZone_strap (n : Node) (z : Fin 32) (f : Zone → Zone) : (n.modZone z f).strap = n.strap := rfl
@[simp] theorem Node.modZone_runState (n : Node) (z : Fin 32) (f : Zone → Zone) : (n.modZone z f).runState = n.runState := rfl
@[simp] theorem Node.modZone_params (n : Node) (z : Fin 32) (f : Zone → Zone) : (n.modZone z f).params = n.params := rfl
@[simp] theorem Node.modZone_time (n : Node) (z : Fin 32) (f : Zone → Zone) : (n.modZone z f).time = n.time := rfl
@[simp] theorem Node.modZone_sensors (n : Node) (z : Fin 32) (f : Zone → Zone) : (n.modZone z f).sensors = n.sensors := rfl
@[simp] theorem Node.modZone_contribution (n : Node) (z : Fin 32) (f : Zone → Zone) : (n.modZone z f).contribution = n.contribution := rfl
@[simp] theorem Node.modZone_line (n : Node) (z : Fin 32) (f : Zone → Zone) : (n.modZone z f).line = n.line := rfl
@[simp] theorem Node.modZone_setups (n : Node) (z : Fin 32) (f : Zone → Zone) : (n.modZone z f).setups = n.setups := rfl
@[simp] theorem Node.modZone_fans (n : Node) (z : Fin 32) (f : Zone → Zone) : (n.modZone z f).fans = n.fans := rfl
@[simp] theorem Node.modZone_inputs (n : Node) (z : Fin 32) (f : Zone → Zone) : (n.modZone z f).inputs = n.inputs := rfl
@[simp] theorem Node.modZone_nicheAlert (n : Node) (z : Fin 32) (f : Zone → Zone) : (n.modZone z f).nicheAlert = n.nicheAlert := rfl
@[simp] theorem Node.modZone_doors (n : Node) (z : Fin 32) (f : Zone → Zone) : (n.modZone z f).doors = n.doors := rfl
@[simp] theorem Node.modZone_reports (n : Node) (z : Fin 32) (f : Zone → Zone) : (n.modZone z f).reports = n.reports := rfl

theorem Node.modZone_zones (n : Node) (z : Fin 32) (f : Zone → Zone) :
    (n.modZone z f).zones = upd n.zones z f := rfl

@[simp] theorem Node.modZone_self (n : Node) (z : Fin 32) (f : Zone → Zone) :
    (n.modZone z f).zones[z] = f n.zones[z] := by simp [Node.modZone]

/-! ### Node.setLevel -/

@[simp] theorem Node.setLevel_strap (n : Node) (i : Fin 24) (v : Bool) : (n.setLevel i v).strap = n.strap := rfl
@[simp] theorem Node.setLevel_runState (n : Node) (i : Fin 24) (v : Bool) : (n.setLevel i v).runState = n.runState := rfl
@[simp] theorem Node.setLevel_params (n : Node) (i : Fin 24) (v : Bool) : (n.setLevel i v).params = n.params := rfl
@[simp] theorem Node.setLevel_time (n : Node) (i : Fin 24) (v : Bool) : (n.setLevel i v).time = n.time := rfl
@[simp] theorem Node.setLevel_sensors (n : Node) (i : Fin 24) (v : Bool) : (n.setLevel i v).sensors = n.sensors := rfl
@[simp] theorem Node.setLevel_contribution (n : Node) (i : Fin 24) (v : Bool) : (n.setLevel i v).contribution = n.contribution := rfl
@[simp] theorem Node.setLevel_line (n : Node) (i : Fin 24) (v : Bool) : (n.setLevel i v).line = n.line := rfl
@[simp] theorem Node.setLevel_setups (n : Node) (i : Fin 24) (v : Bool) : (n.setLevel i v).setups = n.setups := rfl
@[simp] theorem Node.setLevel_fans (n : Node) (i : Fin 24) (v : Bool) : (n.setLevel i v).fans = n.fans := rfl
@[simp] theorem Node.setLevel_nicheAlert (n : Node) (i : Fin 24) (v : Bool) : (n.setLevel i v).nicheAlert = n.nicheAlert := rfl
@[simp] theorem Node.setLevel_doors (n : Node) (i : Fin 24) (v : Bool) : (n.setLevel i v).doors = n.doors := rfl
@[simp] theorem Node.setLevel_zones (n : Node) (i : Fin 24) (v : Bool) : (n.setLevel i v).zones = n.zones := rfl
@[simp] theorem Node.setLevel_reports (n : Node) (i : Fin 24) (v : Bool) : (n.setLevel i v).reports = n.reports := rfl

/-! ### Node.loadSilence -/

@[simp] theorem Node.loadSilence_strap (n : Node) (s : Side) : (n.loadSilence s).strap = n.strap := rfl
@[simp] theorem Node.loadSilence_runState (n : Node) (s : Side) : (n.loadSilence s).runState = n.runState := rfl
@[simp] theorem Node.loadSilence_params (n : Node) (s : Side) : (n.loadSilence s).params = n.params := rfl
@[simp] theorem Node.loadSilence_time (n : Node) (s : Side) : (n.loadSilence s).time = n.time := rfl
@[simp] theorem Node.loadSilence_sensors (n : Node) (s : Side) : (n.loadSilence s).sensors = n.sensors := rfl
@[simp] theorem Node.loadSilence_contribution (n : Node) (s : Side) : (n.loadSilence s).contribution = n.contribution := rfl
@[simp] theorem Node.loadSilence_setups (n : Node) (s : Side) : (n.loadSilence s).setups = n.setups := rfl
@[simp] theorem Node.loadSilence_fans (n : Node) (s : Side) : (n.loadSilence s).fans = n.fans := rfl
@[simp] theorem Node.loadSilence_inputs (n : Node) (s : Side) : (n.loadSilence s).inputs = n.inputs := rfl
@[simp] theorem Node.loadSilence_nicheAlert (n : Node) (s : Side) : (n.loadSilence s).nicheAlert = n.nicheAlert := rfl
@[simp] theorem Node.loadSilence_doors (n : Node) (s : Side) : (n.loadSilence s).doors = n.doors := rfl
@[simp] theorem Node.loadSilence_zones (n : Node) (s : Side) : (n.loadSilence s).zones = n.zones := rfl
@[simp] theorem Node.loadSilence_reports (n : Node) (s : Side) : (n.loadSilence s).reports = n.reports := rfl

/-! ### Fans.modLeg -/

@[simp] theorem Fans.modLeg_groups (F : Fans) (l : Leg) (f : LegRecord → LegRecord) : (F.modLeg l f).groups = F.groups := by
  cases l <;> rfl
@[simp] theorem Fans.modLeg_reserves (F : Fans) (l : Leg) (f : LegRecord → LegRecord) : (F.modLeg l f).reserves = F.reserves := by
  cases l <;> rfl
@[simp] theorem Fans.modLeg_queue (F : Fans) (l : Leg) (f : LegRecord → LegRecord) : (F.modLeg l f).queue = F.queue := by
  cases l <;> rfl
@[simp] theorem Fans.modLeg_slot (F : Fans) (l : Leg) (f : LegRecord → LegRecord) : (F.modLeg l f).slot = F.slot := by
  cases l <;> rfl
@[simp] theorem Fans.modLeg_choices (F : Fans) (l : Leg) (f : LegRecord → LegRecord) : (F.modLeg l f).choices = F.choices := by
  cases l <;> rfl

@[simp] theorem Fans.modLeg_leg (F : Fans) (l : Leg) (f : LegRecord → LegRecord) :
    (F.modLeg l f).leg l = f (F.leg l) := by cases l <;> rfl

@[simp] theorem Fans.modLeg_other (F : Fans) (l : Leg) (f : LegRecord → LegRecord) :
    (F.modLeg l f).leg l.other = F.leg l.other := by cases l <;> rfl

/-! ### Fans.modGroup -/

@[simp] theorem Fans.modGroup_l1 (F : Fans) (g : Fin 4) (f : Fan → Fan) : (F.modGroup g f).l1 = F.l1 := rfl
@[simp] theorem Fans.modGroup_l2 (F : Fans) (g : Fin 4) (f : Fan → Fan) : (F.modGroup g f).l2 = F.l2 := rfl
@[simp] theorem Fans.modGroup_reserves (F : Fans) (g : Fin 4) (f : Fan → Fan) : (F.modGroup g f).reserves = F.reserves := rfl
@[simp] theorem Fans.modGroup_queue (F : Fans) (g : Fin 4) (f : Fan → Fan) : (F.modGroup g f).queue = F.queue := rfl
@[simp] theorem Fans.modGroup_slot (F : Fans) (g : Fin 4) (f : Fan → Fan) : (F.modGroup g f).slot = F.slot := rfl
@[simp] theorem Fans.modGroup_choices (F : Fans) (g : Fin 4) (f : Fan → Fan) : (F.modGroup g f).choices = F.choices := rfl

@[simp] theorem Fans.modGroup_leg (F : Fans) (g : Fin 4) (f : Fan → Fan) (l : Leg) :
    (F.modGroup g f).leg l = F.leg l := by cases l <;> rfl

/-! ### Fans.modReserve -/

@[simp] theorem Fans.modReserve_groups (F : Fans) (z : Fin 32) (f : Reserve → Reserve) : (F.modReserve z f).groups = F.groups := rfl
@[simp] theorem Fans.modReserve_l1 (F : Fans) (z : Fin 32) (f : Reserve → Reserve) : (F.modReserve z f).l1 = F.l1 := rfl
@[simp] theorem Fans.modReserve_l2 (F : Fans) (z : Fin 32) (f : Reserve → Reserve) : (F.modReserve z f).l2 = F.l2 := rfl
@[simp] theorem Fans.modReserve_queue (F : Fans) (z : Fin 32) (f : Reserve → Reserve) : (F.modReserve z f).queue = F.queue := rfl
@[simp] theorem Fans.modReserve_slot (F : Fans) (z : Fin 32) (f : Reserve → Reserve) : (F.modReserve z f).slot = F.slot := rfl
@[simp] theorem Fans.modReserve_choices (F : Fans) (z : Fin 32) (f : Reserve → Reserve) : (F.modReserve z f).choices = F.choices := rfl

@[simp] theorem Fans.modReserve_leg (F : Fans) (z : Fin 32) (f : Reserve → Reserve) (l : Leg) :
    (F.modReserve z f).leg l = F.leg l := by cases l <;> rfl

/-! ### Fans.removeEntry -/

@[simp] theorem Fans.removeEntry_groups (F : Fans) (g : Fin 4) : (F.removeEntry g).groups = F.groups := rfl
@[simp] theorem Fans.removeEntry_l1 (F : Fans) (g : Fin 4) : (F.removeEntry g).l1 = F.l1 := rfl
@[simp] theorem Fans.removeEntry_l2 (F : Fans) (g : Fin 4) : (F.removeEntry g).l2 = F.l2 := rfl
@[simp] theorem Fans.removeEntry_reserves (F : Fans) (g : Fin 4) : (F.removeEntry g).reserves = F.reserves := rfl
@[simp] theorem Fans.removeEntry_slot (F : Fans) (g : Fin 4) : (F.removeEntry g).slot = F.slot := rfl
@[simp] theorem Fans.removeEntry_choices (F : Fans) (g : Fin 4) : (F.removeEntry g).choices = F.choices := rfl

/-! ### Fans.releaseSlot -/

@[simp] theorem Fans.releaseSlot_groups (F : Fans) (g : Fin 4) : (F.releaseSlot g).groups = F.groups := by
  unfold Fans.releaseSlot; split <;> [split <;> rfl; rfl]
@[simp] theorem Fans.releaseSlot_l1 (F : Fans) (g : Fin 4) : (F.releaseSlot g).l1 = F.l1 := by
  unfold Fans.releaseSlot; split <;> [split <;> rfl; rfl]
@[simp] theorem Fans.releaseSlot_l2 (F : Fans) (g : Fin 4) : (F.releaseSlot g).l2 = F.l2 := by
  unfold Fans.releaseSlot; split <;> [split <;> rfl; rfl]
@[simp] theorem Fans.releaseSlot_reserves (F : Fans) (g : Fin 4) : (F.releaseSlot g).reserves = F.reserves := by
  unfold Fans.releaseSlot; split <;> [split <;> rfl; rfl]
@[simp] theorem Fans.releaseSlot_queue (F : Fans) (g : Fin 4) : (F.releaseSlot g).queue = F.queue := by
  unfold Fans.releaseSlot; split <;> [split <;> rfl; rfl]
@[simp] theorem Fans.releaseSlot_choices (F : Fans) (g : Fin 4) : (F.releaseSlot g).choices = F.choices := by
  unfold Fans.releaseSlot; split <;> [split <;> rfl; rfl]

/-! ### SideUnit.setQueue -/

@[simp] theorem SideUnit.setQueue_state (u : SideUnit) (c : TelegramClass) (q : List Queued) : (u.setQueue c q).state = u.state := by
  cases c <;> rfl
@[simp] theorem SideUnit.setQueue_provingCount (u : SideUnit) (c : TelegramClass) (q : List Queued) : (u.setQueue c q).provingCount = u.provingCount := by
  cases c <;> rfl
@[simp] theorem SideUnit.setQueue_errorScore (u : SideUnit) (c : TelegramClass) (q : List Queued) : (u.setQueue c q).errorScore = u.errorScore := by
  cases c <;> rfl
@[simp] theorem SideUnit.setQueue_silence (u : SideUnit) (c : TelegramClass) (q : List Queued) : (u.setQueue c q).silence = u.silence := by
  cases c <;> rfl
@[simp] theorem SideUnit.setQueue_idle (u : SideUnit) (c : TelegramClass) (q : List Queued) : (u.setQueue c q).idle = u.idle := by
  cases c <;> rfl
@[simp] theorem SideUnit.setQueue_neighbourId (u : SideUnit) (c : TelegramClass) (q : List Queued) : (u.setQueue c q).neighbourId = u.neighbourId := by
  cases c <;> rfl
@[simp] theorem SideUnit.setQueue_neighbourRunState (u : SideUnit) (c : TelegramClass) (q : List Queued) : (u.setQueue c q).neighbourRunState = u.neighbourRunState := by
  cases c <;> rfl
@[simp] theorem SideUnit.setQueue_transmitting (u : SideUnit) (c : TelegramClass) (q : List Queued) : (u.setQueue c q).transmitting = u.transmitting := by
  cases c <;> rfl

@[simp] theorem SideUnit.setQueue_queue (u : SideUnit) (c : TelegramClass) (q : List Queued) :
    (u.setQueue c q).queue c = q := by cases c <;> rfl

end Sys2Proof.Machine
end

