-- ==== Sys2Proof/Laws/Ops.lean ====
section
/-!
SUPPORT. What each shared operation of the node can change, said once: the result is the node with those
blocks replaced and no other. A proof that needs a frame cites these and unfolds nothing.
-/

namespace Sys2Proof.Machine

/-! ### Reports -/

theorem Node.raise_eq (r : Report) (n : Node) : ∃ q, n.raise r = { n with reports := q } := by
  unfold Node.raise
  split
  · exact ⟨_, rfl⟩
  · exact ⟨n.reports, rfl⟩

theorem Node.raiseAll_eq (rs : List Report) (n : Node) :
    ∃ q, n.raiseAll rs = { n with reports := q } := by
  induction rs generalizing n with
  | nil => exact ⟨n.reports, rfl⟩
  | cons r rs ih =>
    obtain ⟨q, h⟩ := n.raise_eq r
    obtain ⟨q', h'⟩ := ih { n with reports := q }
    refine ⟨q', ?_⟩
    change (n.raise r).raiseAll rs = _
    rw [h]
    exact h'

@[simp] theorem Node.raise_strap (r : Report) (n : Node) : (n.raise r).strap = n.strap := by
  obtain ⟨q, h⟩ := n.raise_eq r; rw [h]
@[simp] theorem Node.raise_runState (r : Report) (n : Node) : (n.raise r).runState = n.runState := by
  obtain ⟨q, h⟩ := n.raise_eq r; rw [h]
@[simp] theorem Node.raise_params (r : Report) (n : Node) : (n.raise r).params = n.params := by
  obtain ⟨q, h⟩ := n.raise_eq r; rw [h]
@[simp] theorem Node.raise_time (r : Report) (n : Node) : (n.raise r).time = n.time := by
  obtain ⟨q, h⟩ := n.raise_eq r; rw [h]
@[simp] theorem Node.raise_sensors (r : Report) (n : Node) : (n.raise r).sensors = n.sensors := by
  obtain ⟨q, h⟩ := n.raise_eq r; rw [h]
@[simp] theorem Node.raise_contribution (r : Report) (n : Node) : (n.raise r).contribution = n.contribution := by
  obtain ⟨q, h⟩ := n.raise_eq r; rw [h]
@[simp] theorem Node.raise_line (r : Report) (n : Node) : (n.raise r).line = n.line := by
  obtain ⟨q, h⟩ := n.raise_eq r; rw [h]
@[simp] theorem Node.raise_setups (r : Report) (n : Node) : (n.raise r).setups = n.setups := by
  obtain ⟨q, h⟩ := n.raise_eq r; rw [h]
@[simp] theorem Node.raise_fans (r : Report) (n : Node) : (n.raise r).fans = n.fans := by
  obtain ⟨q, h⟩ := n.raise_eq r; rw [h]
@[simp] theorem Node.raise_inputs (r : Report) (n : Node) : (n.raise r).inputs = n.inputs := by
  obtain ⟨q, h⟩ := n.raise_eq r; rw [h]
@[simp] theorem Node.raise_nicheAlert (r : Report) (n : Node) : (n.raise r).nicheAlert = n.nicheAlert := by
  obtain ⟨q, h⟩ := n.raise_eq r; rw [h]
@[simp] theorem Node.raise_doors (r : Report) (n : Node) : (n.raise r).doors = n.doors := by
  obtain ⟨q, h⟩ := n.raise_eq r; rw [h]
@[simp] theorem Node.raise_zones (r : Report) (n : Node) : (n.raise r).zones = n.zones := by
  obtain ⟨q, h⟩ := n.raise_eq r; rw [h]

@[simp] theorem Node.raiseAll_strap (rs : List Report) (n : Node) :
    (n.raiseAll rs).strap = n.strap := by
  obtain ⟨q, h⟩ := n.raiseAll_eq rs; rw [h]
@[simp] theorem Node.raiseAll_runState (rs : List Report) (n : Node) :
    (n.raiseAll rs).runState = n.runState := by
  obtain ⟨q, h⟩ := n.raiseAll_eq rs; rw [h]
@[simp] theorem Node.raiseAll_params (rs : List Report) (n : Node) :
    (n.raiseAll rs).params = n.params := by
  obtain ⟨q, h⟩ := n.raiseAll_eq rs; rw [h]
@[simp] theorem Node.raiseAll_time (rs : List Report) (n : Node) :
    (n.raiseAll rs).time = n.time := by
  obtain ⟨q, h⟩ := n.raiseAll_eq rs; rw [h]
@[simp] theorem Node.raiseAll_sensors (rs : List Report) (n : Node) :
    (n.raiseAll rs).sensors = n.sensors := by
  obtain ⟨q, h⟩ := n.raiseAll_eq rs; rw [h]
@[simp] theorem Node.raiseAll_contribution (rs : List Report) (n : Node) :
    (n.raiseAll rs).contribution = n.contribution := by
  obtain ⟨q, h⟩ := n.raiseAll_eq rs; rw [h]
@[simp] theorem Node.raiseAll_line (rs : List Report) (n : Node) :
    (n.raiseAll rs).line = n.line := by
  obtain ⟨q, h⟩ := n.raiseAll_eq rs; rw [h]
@[simp] theorem Node.raiseAll_setups (rs : List Report) (n : Node) :
    (n.raiseAll rs).setups = n.setups := by
  obtain ⟨q, h⟩ := n.raiseAll_eq rs; rw [h]
@[simp] theorem Node.raiseAll_fans (rs : List Report) (n : Node) :
    (n.raiseAll rs).fans = n.fans := by
  obtain ⟨q, h⟩ := n.raiseAll_eq rs; rw [h]
@[simp] theorem Node.raiseAll_inputs (rs : List Report) (n : Node) :
    (n.raiseAll rs).inputs = n.inputs := by
  obtain ⟨q, h⟩ := n.raiseAll_eq rs; rw [h]
@[simp] theorem Node.raiseAll_nicheAlert (rs : List Report) (n : Node) :
    (n.raiseAll rs).nicheAlert = n.nicheAlert := by
  obtain ⟨q, h⟩ := n.raiseAll_eq rs; rw [h]
@[simp] theorem Node.raiseAll_doors (rs : List Report) (n : Node) :
    (n.raiseAll rs).doors = n.doors := by
  obtain ⟨q, h⟩ := n.raiseAll_eq rs; rw [h]
@[simp] theorem Node.raiseAll_zones (rs : List Report) (n : Node) :
    (n.raiseAll rs).zones = n.zones := by
  obtain ⟨q, h⟩ := n.raiseAll_eq rs; rw [h]

/-! ### The groups and the doors -/

theorem Node.withFans_eq (n : Node) (f : FanEnv → FanRun → FanRun) :
    ∃ q, n.withFans f = { n with fans := (n.fanRun f).fans, reports := q } := by
  obtain ⟨q, h⟩ := Node.raiseAll_eq (n.fanRun f).raised { n with fans := (n.fanRun f).fans }
  exact ⟨q, h⟩

theorem Node.presentGroups_eq (n : Node) :
    ∃ F q, n.presentGroups = { n with fans := F, reports := q } := by
  obtain ⟨q, h⟩ := n.withFans_eq FanRun.present
  exact ⟨_, q, h⟩

theorem Node.examineQueue_eq (n : Node) :
    ∃ F q, n.examineQueue = { n with fans := F, reports := q } := by
  obtain ⟨q, h⟩ := n.withFans_eq FanRun.examine
  exact ⟨_, q, h⟩

theorem Node.withDoor_eq (n : Node) (d : Fin 2) (f : DoorEnv → DoorRun → DoorRun) :
    ∃ F q, n.withDoor d f =
      { n with doors := n.doors.set d (f (n.doorEnv d) { door := n.doors[d], raised := [] }).door,
               fans := F, reports := q } := by
  unfold Node.withDoor
  simp only
  obtain ⟨q, h⟩ := Node.raiseAll_eq (f (n.doorEnv d) { door := n.doors[d], raised := [] }).raised
    { n with doors := n.doors.set d (f (n.doorEnv d) { door := n.doors[d], raised := [] }).door }
  rw [h]
  obtain ⟨F, q', h'⟩ := Node.presentGroups_eq
    { n with doors := n.doors.set d (f (n.doorEnv d) { door := n.doors[d], raised := [] }).door,
             reports := q }
  exact ⟨F, q', h'⟩

theorem Node.refreshDoors_eq (n : Node) :
    ∃ D F q, n.refreshDoors = { n with doors := D, fans := F, reports := q } := by
  unfold Node.refreshDoors
  obtain ⟨F, q, h⟩ := n.withDoor_eq 0 DoorRun.refresh
  rw [h]
  obtain ⟨F', q', h'⟩ := Node.withDoor_eq _ 1 DoorRun.refresh
  rw [h']
  exact ⟨_, _, _, rfl⟩

theorem Node.presentZone_eq (n : Node) :
    ∃ D F q, n.presentZone = { n with doors := D, fans := F, reports := q } := by
  unfold Node.presentZone
  obtain ⟨F, q, h⟩ := n.presentGroups_eq
  rw [h]
  obtain ⟨D, F', q', h'⟩ := Node.refreshDoors_eq { n with fans := F, reports := q }
  exact ⟨D, F', q', h'⟩

/-! ### Telegrams offered to a side -/

theorem Node.modSide_eq (s : Side) (f : SideUnit → SideUnit) (n : Node) :
    ∃ l, n.modSide s f = { n with line := l } := ⟨_, rfl⟩

theorem Node.offerPlain_eq (s : Side) (e : Queued) (n : Node) :
    ∃ l q, n.offerPlain s e = { n with line := l, reports := q } := by
  have hr : ∀ r, ∃ l q, n.raise r = { n with line := l, reports := q } := fun r => by
    obtain ⟨q, h⟩ := n.raise_eq r
    exact ⟨n.line, q, h⟩
  unfold Node.offerPlain
  split
  · exact hr _
  · split
    · exact ⟨_, n.reports, rfl⟩
    · split
      · exact ⟨_, n.reports, rfl⟩
      · exact hr _

theorem Node.notify_eq (a : Side) (c : NoticeCause) (t : Telegram) (n : Node) :
    ∃ l q, n.notify a c t = { n with line := l, reports := q } := by
  unfold Node.notify
  split
  · exact n.offerPlain_eq _ _
  · exact ⟨n.line, n.reports, rfl⟩

theorem Node.offer_eq (s : Side) (e : Queued) (n : Node) :
    ∃ l q, n.offer s e = { n with line := l, reports := q } := by
  have hr : ∀ r, ∃ l q, n.raise r = { n with line := l, reports := q } := fun r => by
    obtain ⟨q, h⟩ := n.raise_eq r
    exact ⟨n.line, q, h⟩
  unfold Node.offer
  split
  · split
    · exact n.notify_eq _ _ _
    · exact hr _
  · split
    · exact ⟨_, n.reports, rfl⟩
    · split
      · exact ⟨_, n.reports, rfl⟩
      · exact hr _
      · split
        · obtain ⟨q, h⟩ := n.raise_eq (txDropped s e.telegram.kind)
          simp only [h]
          obtain ⟨l, q', h'⟩ := Node.notify_eq _ .congested e.telegram { n with reports := q }
          exact ⟨l, q', h'⟩
        · exact hr _
      · split
        · exact n.notify_eq _ _ _
        · exact hr _

theorem Node.sendTo_eq (s : Side) (t : Telegram) (n : Node) :
    ∃ l q, n.sendTo s t = { n with line := l, reports := q } := n.offer_eq _ _

theorem Node.forward_eq (s : Side) (t : Telegram) (n : Node) :
    ∃ l q, n.forward s t = { n with line := l, reports := q } := n.offer_eq _ _

theorem Node.sendBoth_eq (t : Telegram) (n : Node) :
    ∃ l q, n.sendBoth t = { n with line := l, reports := q } := by
  have h1 : ∃ l q, (if n.isUp .west then n.offer .west ⟨t, .here⟩ else n) =
      { n with line := l, reports := q } := by
    split
    · exact n.offer_eq _ _
    · exact ⟨n.line, n.reports, rfl⟩
  obtain ⟨l, q, h⟩ := h1
  unfold Node.sendBoth
  simp only [h]
  split
  · obtain ⟨l', q', h'⟩ := Node.offer_eq .east ⟨t, .here⟩ { n with line := l, reports := q }
    exact ⟨l', q', h'⟩
  · exact ⟨l, q, rfl⟩

theorem Node.notifyOne_eq (s : Side) (n : Node) (e : Queued) :
    ∃ l q, n.notifyOne s e = { n with line := l, reports := q } := by
  unfold Node.notifyOne
  split
  · split
    · exact n.notify_eq _ _ _
    · exact ⟨n.line, n.reports, rfl⟩
  · exact ⟨n.line, n.reports, rfl⟩

theorem Node.notifyFlushed_eq (s : Side) (es : List Queued) (n : Node) :
    ∃ l q, n.notifyFlushed s es = { n with line := l, reports := q } := by
  induction es generalizing n with
  | nil => exact ⟨n.line, n.reports, rfl⟩
  | cons e es ih =>
    obtain ⟨l, q, h⟩ := n.notifyOne_eq s e
    obtain ⟨l', q', h'⟩ := ih { n with line := l, reports := q }
    refine ⟨l', q', ?_⟩
    simp only [Node.notifyFlushed, List.foldl_cons, h]
    exact h'

/-! ### Sides entering and leaving UP -/

theorem Node.checkIsolated_eq (n : Node) :
    ∃ r q, n.checkIsolated = { n with runState := r, reports := q } := by
  unfold Node.checkIsolated
  split
  · obtain ⟨q, h⟩ := Node.raise_eq _ { n with runState := .isolated }
    exact ⟨_, q, h⟩
  · exact ⟨n.runState, n.reports, rfl⟩

theorem Node.leaveUp_eq (s : Side) (c : DownCause) (n : Node) :
    ∃ l r q, n.leaveUp s c = { n with line := l, runState := r, reports := q } := by
  unfold Node.leaveUp
  simp only
  obtain ⟨l, q, h⟩ := Node.notifyFlushed_eq s.other (n.side s).flushed (n.modSide s SideUnit.drop)
  rw [h]
  obtain ⟨q', h'⟩ := Node.raise_eq
    { kind := .sideDown, object := sideCode s, severity := .alarm,
      detail := 256 * downCauseCode c + (n.side s).flushed.length }
    { n.modSide s SideUnit.drop with line := l, reports := q }
  rw [h']
  obtain ⟨r, q'', h''⟩ := Node.checkIsolated_eq
    { n.modSide s SideUnit.drop with line := l, reports := q' }
  exact ⟨l, r, q'', h''⟩

theorem Node.enterUp_eq (s : Side) (n : Node) :
    ∃ l r q, n.enterUp s = { n with line := l, runState := r, reports := q } := by
  unfold Node.enterUp
  simp only
  obtain ⟨l, h⟩ := n.modSide_eq s fun u =>
    { u with state := .up, provingCount := 0, silence := some n.params.silenceLimit }
  rw [h]
  obtain ⟨q, h'⟩ := Node.raise_eq
    { kind := .sideUp, object := sideCode s, severity := .info,
      detail := ((({ n with line := l } : Node)).side s).neighbourId.getD 255 } { n with line := l }
  rw [h']
  split
  · obtain ⟨q', h''⟩ := Node.raise_eq
      { kind := .rejoined, object := 0, severity := .info, detail := sideCode s }
      { n with line := l, reports := q, runState := .operational }
    exact ⟨l, .operational, q', h''⟩
  · exact ⟨l, n.runState, q, rfl⟩

theorem Node.receiveBad_eq (s : Side) (n : Node) :
    ∃ l r q, n.receiveBad s = { n with line := l, runState := r, reports := q } := by
  unfold Node.receiveBad
  simp only
  split
  · obtain ⟨l, r, q, h⟩ := Node.leaveUp_eq s .errors (n.modSide s fun u =>
      { u with errorScore := min 8 (u.errorScore + 1),
               provingCount := if u.state = .proving then 0 else u.provingCount })
    exact ⟨l, r, q, h⟩
  · exact ⟨_, n.runState, n.reports, rfl⟩

theorem Node.prove_eq (s : Side) (n : Node) :
    ∃ l r q, n.prove s = { n with line := l, runState := r, reports := q } := by
  unfold Node.prove
  split
  · exact ⟨_, n.runState, n.reports, rfl⟩
  · simp only
    split
    · obtain ⟨l, r, q, h⟩ := Node.enterUp_eq s (n.modSide s fun u =>
        { u with provingCount := u.provingCount + 1, silence := some n.params.silenceLimit })
      exact ⟨l, r, q, h⟩
    · exact ⟨_, n.runState, n.reports, rfl⟩
  · exact ⟨n.line, n.runState, n.reports, rfl⟩

theorem Node.recordNeighbour_eq (s : Side) (body : List Byte) (n : Node) :
    ∃ l q, n.recordNeighbour s body = { n with line := l, reports := q } := by
  unfold Node.recordNeighbour
  split
  · split
    · exact ⟨n.line, n.reports, rfl⟩
    · have both : ∀ (b : Bool) (m : Node) (r : Report), ∃ q,
          (if b = true then m.raise r else m) = { m with reports := q } := by
        intro b m r
        cases b
        · exact ⟨m.reports, rfl⟩
        · exact m.raise_eq r
      obtain ⟨q, h⟩ := both _ _ _
      exact ⟨_, q, h⟩
  · exact ⟨n.line, n.reports, rfl⟩

theorem Node.silenceExpired_eq (s : Side) (n : Node) :
    ∃ l r q, n.silenceExpired s = { n with line := l, runState := r, reports := q } := by
  unfold Node.silenceExpired
  split
  · exact ⟨n.line, n.runState, n.reports, rfl⟩
  · exact ⟨_, n.runState, n.reports, rfl⟩
  · exact n.leaveUp_eq _ _

/-! ### The zone unit -/

theorem Node.sendZoneReply_eq (s : Side) (tag : Byte) (body : List Byte) (n : Node) :
    ∃ l q, n.sendZoneReply s tag body = { n with line := l, reports := q } := by
  unfold Node.sendZoneReply
  split
  · exact n.sendTo_eq _ _
  · exact ⟨n.line, n.reports, rfl⟩

theorem Node.closeRecord_eq (z : Fin 32) (c : Option ZoneOutcome) (n : Node) :
    ∃ l q, n.closeRecord z c =
      { n.modZone z (fun e => { e with record := none }) with line := l, reports := q } := by
  unfold Node.closeRecord
  split
  · rename_i h
    refine ⟨n.line, n.reports, ?_⟩
    have hz : upd n.zones z (fun e => { e with record := none }) = n.zones := by
      ext i hi
      by_cases e : z.val = i
      · subst e
        have : n.zones[z.val].record = none := h
        simp only [upd_self]
        rw [← this]
      · have : z ≠ ⟨i, hi⟩ := fun x => e (congrArg Fin.val x)
        exact upd_ne n.zones z ⟨i, hi⟩ _ this
    simp [Node.modZone, hz]
  · exact Node.sendZoneReply_eq _ _ _ _

theorem Node.freeEntry_eq (z : Fin 32) (n : Node) :
    ∃ D F q, n.freeEntry z = { n.modZone z Zone.freed with doors := D, fans := F, reports := q } := by
  unfold Node.freeEntry
  obtain ⟨D, F, q, h⟩ := Node.presentZone_eq
    { n with zones := upd n.zones z Zone.freed, fans := n.fans.release z }
  rw [h]
  obtain ⟨F', q', h'⟩ := Node.examineQueue_eq
    { n with zones := upd n.zones z Zone.freed, doors := D, fans := F, reports := q }
  exact ⟨D, F', q', h'⟩

theorem Node.tearEntry_eq (z : Fin 32) (n : Node) :
    ∃ Z l D F q, n.tearEntry z =
      { n with zones := Z, line := l, doors := D, fans := F, reports := q } := by
  unfold Node.tearEntry
  obtain ⟨l, q, h⟩ := n.closeRecord_eq z (some .zoneTornDown)
  rw [h]
  obtain ⟨D, F, q', h'⟩ := Node.freeEntry_eq z
    { n.modZone z (fun e => { e with record := none }) with line := l, reports := q }
  exact ⟨_, l, D, F, q', h'⟩

theorem Node.undoBind_eq (z : Fin 32) (n : Node) :
    ∃ Z D F q, n.undoBind z = { n with zones := Z, doors := D, fans := F, reports := q } := by
  unfold Node.undoBind
  split
  · exact ⟨_, n.doors, n.fans, n.reports, rfl⟩
  · obtain ⟨D, F, q, h⟩ := n.freeEntry_eq z
    exact ⟨_, D, F, q, h⟩

theorem Node.bindWaitExpired_eq (z : Fin 32) (n : Node) :
    ∃ Z D F q, n.bindWaitExpired z = { n with zones := Z, doors := D, fans := F, reports := q } := by
  unfold Node.bindWaitExpired
  simp only
  obtain ⟨Z, D, F, q, h⟩ := n.undoBind_eq z
  rw [h]
  obtain ⟨q', h'⟩ := Node.raise_eq
    { kind := .bindTimeout, object := z, severity := .info,
      detail := 256 * n.zones[z].bindTag.toNat + flag n.zones[z].boundBefore }
    (Node.modZone { n with zones := Z, doors := D, fans := F, reports := q } z fun x =>
      { x with lapseNote := some (n.zones[z].bindTag, n.zones[z].inputSide.other) })
  exact ⟨_, D, F, q', h'⟩

/-! ### Samples, reports and the service unit -/

theorem Node.publish_eq (n : Node) :
    ∃ b l q, n.publish =
      { n with sensors := { n.sensors with sampleSequence := b }, line := l, reports := q } := by
  unfold Node.publish
  split
  · obtain ⟨l, q, h⟩ := Node.sendBoth_eq (sampleTelegram n)
      { n with sensors := { n.sensors with sampleSequence := n.sensors.sampleSequence + 1 } }
    exact ⟨_, l, q, h⟩
  · exact ⟨n.sensors.sampleSequence, n.line, n.reports, rfl⟩

theorem Node.drain_eq (n : Node) : ∃ l q, n.drain = { n with line := l, reports := q } := by
  unfold Node.drain
  split
  · obtain ⟨l, q, h⟩ := Node.sendBoth_eq (reportTelegram n) { n with reports := n.reports.drained }
    exact ⟨l, q, h⟩
  · exact ⟨n.line, n.reports, rfl⟩

theorem Node.ageingStep_eq (n : Node) :
    ∃ q, n.ageingStep =
      { n with contribution := n.contribution.aged n.params.staleAfter n.params.lapseAfter,
               reports := q } := by
  obtain ⟨q, h⟩ := Node.raiseAll_eq (n.contribution.staleReports n.params.staleAfter)
    { n with contribution := n.contribution.aged n.params.staleAfter n.params.lapseAfter }
  exact ⟨q, h⟩

theorem Node.setOrderTarget_eq (g : Fin 4) (o : Option (Nat × Direction)) (n : Node) :
    ∃ F q, n.setOrderTarget g o =
      { n with setups := upd n.setups g (fun s => { s with orderTarget := o }), fans := F,
               reports := q } := by
  obtain ⟨F, q, h⟩ := Node.presentGroups_eq
    { n with setups := upd n.setups g (fun s => { s with orderTarget := o }) }
  exact ⟨F, q, h⟩

theorem Node.clearAlerts_eq (n : Node) :
    ∃ D F q, n.clearAlerts =
      { n with sensors := { n.sensors with fireSuspect := false }, nicheAlert := false, doors := D,
               fans := F, reports := q } := by
  obtain ⟨D, F, q, h⟩ := Node.refreshDoors_eq
    { n with sensors := { n.sensors with fireSuspect := false }, nicheAlert := false }
  exact ⟨D, F, q, h⟩

theorem Node.storeGroup_eq (g : Fin 4) (c : GroupConfig) (n : Node) :
    ∃ F q, n.storeGroup g c =
      { n with setups := upd n.setups g (fun s => { s with config := c }), fans := F,
               reports := q } := by
  unfold Node.storeGroup
  simp only
  split
  · obtain ⟨F, q, h⟩ := Node.presentGroups_eq
      { n with setups := upd n.setups g (fun s => { s with config := c }) }
    exact ⟨F, q, h⟩
  · obtain ⟨F, q, h⟩ := Node.examineQueue_eq
      { n with setups := upd n.setups g (fun s => { s with config := c }) }
    rw [h]
    obtain ⟨F', q', h'⟩ := Node.presentGroups_eq
      { n with setups := upd n.setups g (fun s => { s with config := c }), fans := F,
               reports := q }
    exact ⟨F', q', h'⟩

end Sys2Proof.Machine
end

