-- ==== Sys2Proof/Laws/Commands.lean ====
section
/-!
SUPPORT. What a command comes to: the telegram rows are the reception of their telegram, a telegram for
this node reaches the service unit, a loop current becomes a code, and a step takes the command at the
front of the queue.
-/

namespace Sys2Proof.Machine

/-- The converter answers a 16-bit code, in proportion to the current until full scale and the greatest
code from there on (R1). -/
theorem converterCode_cases (current : Nat) :
    converterCode current ≤ 65535 ∧
      (Config.fullScale ≤ current → converterCode current = 65535) ∧
      (current ≤ Config.fullScale →
        converterCode current = (current * 65535 + Config.fullScale / 2) / Config.fullScale) := by
  unfold converterCode Config.fullScale
  omega

/-- Every telegram row is the reception of the telegram it brings. -/
theorem exec_telegram (i : Instr) (s : State) (side : Side) (t : Telegram)
    (h : i.telegram = some (side, t)) :
    exec i s = .next { s with node := s.node.receive side t } := by
  cases i <;> simp only [Instr.telegram, reduceCtorEq, Option.some.injEq, Prod.mk.injEq] at h <;>
    obtain ⟨rfl, rfl⟩ := h <;> rfl

/-- Every command answers with a next state whose queue is the queue it found. -/
theorem exec_next (i : Instr) (s : State) : ∃ n, exec i s = .next { s with node := n } := by
  cases i <;> exact ⟨_, rfl⟩

/-- A good telegram that an UP side receives. -/
theorem Node.receive_up (n : Node) (s : Side) (t : Telegram) (h : n.Hears s t) :
    n.receive s t =
      if t.kind = .idle then (n.loadSilence s).recordNeighbour s t.body
      else (n.loadSilence s).switch s t := by
  obtain ⟨up, good, -⟩ := h
  simp only [Node.receive, good, if_true, Node.receiveGood, up, Node.receiveUp]

@[simp] theorem Node.loadSilence_isUp (n : Node) (s u : Side) : (n.loadSilence s).isUp u = n.isUp u := by
  cases s <;> cases u <;> rfl

@[simp] theorem Node.loadSilence_validId (n : Node) (s : Side) :
    (n.loadSilence s).validId = n.validId := rfl

/-- The switch on a telegram below the hop limit. -/
theorem Node.switch_below (n : Node) (s : Side) (t : Telegram) (h : t.hop.toNat < 126) :
    n.switch s t =
      match t.route with
      | .path => n.switchPath s (hopped t)
      | .toEnd => n.switchEnd s (hopped t)
      | .bothEnds => n.switchEnd s (hopped t)
      | .zone => n.switchZone s (hopped t) := by
  have : ¬ 126 ≤ t.hop.toNat := by omega
  unfold Node.switch
  exact (if_neg this).trans (by cases t.route <;> rfl)

/-- An ORDER for this node reaches the service unit. -/
theorem Node.receive_order (n : Node) (s : Side) (h : Header) (o a b c : Byte)
    (H : n.Addressed s (orderTelegram h o a b c)) :
    n.receive s (orderTelegram h o a b c) =
      (n.loadSilence s).order s (hopped (orderTelegram h o a b c)) := by
  obtain ⟨hears, hop, id⟩ := H
  rw [n.receive_up s _ hears, if_neg (by simp [orderTelegram, Header.telegram]),
    Node.switch_below _ _ _ hears.2.2]
  have hop' : h.hop + 1#8 = h.target := hop
  simp [orderTelegram, Header.telegram, Node.switchPath, hopped, Node.routePath, hop', id,
    Node.deliver]

/-- A SERVICE telegram for this node reaches the service unit. -/
theorem Node.receive_service (n : Node) (s : Side) (h : Header) (o a b c : Byte) (d : List Byte)
    (H : n.Addressed s (serviceTelegram h o a b c d)) :
    n.receive s (serviceTelegram h o a b c d) =
      (n.loadSilence s).service s (hopped (serviceTelegram h o a b c d)) := by
  obtain ⟨hears, hop, id⟩ := H
  rw [n.receive_up s _ hears, if_neg (by simp [serviceTelegram, Header.telegram]),
    Node.switch_below _ _ _ hears.2.2]
  have hop' : h.hop + 1#8 = h.target := hop
  simp [serviceTelegram, Header.telegram, Node.switchPath, hopped, Node.routePath, hop', id,
    Node.deliver]

/-- A good telegram other than IDLE that an UP side receives below the hop limit reaches the switch's
handling of its route mode. -/
theorem Node.receive_switch {n : Node} {s : Side} {t : Telegram} (h : n.Hears s t)
    (k : t.kind ≠ .idle) :
    n.receive s t =
      match t.route with
      | .path => (n.loadSilence s).switchPath s (hopped t)
      | .toEnd => (n.loadSilence s).switchEnd s (hopped t)
      | .bothEnds => (n.loadSilence s).switchEnd s (hopped t)
      | .zone => (n.loadSilence s).switchZone s (hopped t) := by
  rw [n.receive_up s _ h, if_neg k, Node.switch_below _ _ _ h.2.2]

/-- An order that passes every check takes effect and is answered OK (R172). -/
theorem Node.receive_obeyed {n : Node} {s : Side} {h : Header} {o a b c : Byte} {ord : Order}
    (H : n.Obeys s (orderTelegram h o a b c)) (ho : orderOf [o, a, b, c] = .ok ord)
    (hav : n.orderAvailable ord = true) :
    n.receive s (orderTelegram h o a b c) = ((n.loadSilence s).obey ord).sendTo s
      (orderReply (n.loadSilence s) (hopped (orderTelegram h o a b c)) .ok) := by
  obtain ⟨A, f, r⟩ := H
  rw [Node.receive_order _ _ _ _ _ _ _ A]
  have f' : fromHeadEnd (hopped (orderTelegram h o a b c)) = true := f
  have r' : (n.loadSilence s).runState ≠ .unconfigured := r
  have b' : (hopped (orderTelegram h o a b c)).body = [o, a, b, c] := rfl
  have v' : (n.loadSilence s).orderAvailable ord = true := by cases ord <;> exact hav
  have checks : (n.loadSilence s).orderChecks (hopped (orderTelegram h o a b c)) = .ok ord := by
    simp only [Node.orderChecks, f', if_neg r', b', ho, v']
    rfl
  unfold Node.order
  rw [checks]

/-- A WRITE that passes the checks of R174 before its object is served and answered. -/
theorem Node.receive_write {n : Node} {s : Side} {h : Header} {a b c : Byte} {d : List Byte}
    (H : n.Serves s (serviceTelegram h 1 a b c d)) :
    n.receive s (serviceTelegram h 1 a b c d) =
      (let r := (n.loadSilence s).serviceWrite a.toNat b.toNat c.toNat d
       let m := r.node.sendTo s (serviceReply (n.loadSilence s)
         (hopped (serviceTelegram h 1 a b c d)) r.status r.data)
       if r.restart then m.warmRestart else m) := by
  obtain ⟨A, f, r⟩ := H
  rw [Node.receive_service _ _ _ _ _ _ _ _ A]
  have b' : (hopped (serviceTelegram h 1 a b c d)).body = 1 :: a :: b :: c :: d := rfl
  have f' : fromHeadEnd (hopped (serviceTelegram h 1 a b c d)) = true := f
  have may : (n.loadSilence s).mayChange s (hopped (serviceTelegram h 1 a b c d)) = true := by
    simp only [Node.mayChange, f', Bool.true_and]
    exact r
  simp only [Node.service, Node.serviceResult, b', may]
  rfl

/-- A step with a command waiting. -/
theorem step_cons (n : Node) (c : Instr) (rest : List Instr) :
    step { node := n, pending := c :: rest } = exec c { node := n, pending := rest } := rfl

/-- A step with no command waiting. -/
theorem step_nil (n : Node) :
    step { node := n, pending := [] } = .next { node := n.tick, pending := [] } := rfl

end Sys2Proof.Machine
end

