-- ==== Sys2Proof/Laws/Doors.lean ====
section
/-!
SUPPORT. What each door operation leaves alone, said once: no operation of a door changes its
configuration, and the beacon and the cause set change where R124 and R133 say.
-/

namespace Sys2Proof.Machine

@[simp] theorem Door.light_causes (d : Door) : d.light.causes = d.causes := rfl
@[simp] theorem Door.light_state (d : Door) : d.light.state = d.state := rfl
@[simp] theorem Door.light_config (d : Door) : d.light.config = d.config := rfl

@[simp] theorem Door.open_state (env : DoorEnv) (d : Door) : (d.open env).state = .opened := rfl
@[simp] theorem Door.open_causes (env : DoorEnv) (d : Door) : (d.open env).causes = d.causes := rfl
@[simp] theorem Door.open_config (env : DoorEnv) (d : Door) : (d.open env).config = d.config := rfl

theorem Door.relatchNow_frame (env : DoorEnv) (d : Door) :
    (d.relatchNow env).causes = d.causes ∧ (d.relatchNow env).config = d.config := by
  unfold Door.relatchNow
  split <;> exact ⟨rfl, rfl⟩

theorem Door.startRelatch_frame (env : DoorEnv) (d : Door) :
    (d.startRelatch env).causes = d.causes ∧ (d.startRelatch env).config = d.config := by
  unfold Door.startRelatch
  split
  · exact ⟨rfl, rfl⟩
  · split
    · exact d.relatchNow_frame env
    · exact ⟨rfl, rfl⟩

theorem Door.causeAppears_frame (d : Door) :
    d.causeAppears.causes = d.causes ∧ d.causeAppears.config = d.config := by
  unfold Door.causeAppears
  split <;> exact ⟨rfl, rfl⟩

theorem Door.causesGone_frame (env : DoorEnv) (d : Door) :
    (d.causesGone env).causes = d.causes ∧ (d.causesGone env).config = d.config := by
  unfold Door.causesGone
  split
  · exact d.startRelatch_frame env
  all_goals exact ⟨rfl, rfl⟩

/-- A change of the cause set stores that set, and keeps the configuration (R124). -/
theorem Door.setCauses_frame (env : DoorEnv) (c : Causes) (d : Door) :
    (d.setCauses env c).causes = c ∧ (d.setCauses env c).config = d.config := by
  unfold Door.setCauses
  dsimp only
  split
  · exact Door.causeAppears_frame _
  · split
    · exact Door.causesGone_frame _ _
    · exact ⟨rfl, rfl⟩

/-- The causes formed again keep REQUEST and ORDER (R124). -/
theorem Door.formCauses_frame (env : DoorEnv) (d : Door) :
    (d.formCauses env).request = d.causes.request ∧ (d.formCauses env).order = d.causes.order :=
  ⟨rfl, rfl⟩

/-- A refreshed door (R124). -/
theorem DoorRun.refresh_frame (env : DoorEnv) (r : DoorRun) :
    (r.refresh env).door.causes = r.door.formCauses env ∧
      (r.refresh env).door.config = r.door.config ∧ (r.refresh env).raised = r.raised :=
  ⟨(Door.setCauses_frame env _ r.door).1, (Door.setCauses_frame env _ r.door).2, rfl⟩

/-- A door that an order holds or lets go (R173). -/
theorem DoorRun.setOrder_frame (env : DoorEnv) (on : Bool) (r : DoorRun) :
    (r.setOrder env on).door.causes = { r.door.causes with order := on } ∧
      (r.setOrder env on).door.config = r.door.config ∧ (r.setOrder env on).raised = r.raised :=
  ⟨(Door.setCauses_frame env _ r.door).1, (Door.setCauses_frame env _ r.door).2, rfl⟩

end Sys2Proof.Machine
end

