-- ==== Sys2Proof/Laws/PerInstr.lean ====
section
/-!
SUPPORT. The per-command family `Wf`: a well-formed command brings a telegram that passes the header and
length checks of R41, one lemma for each constructor.
-/

namespace Sys2Proof.Laws.Wf

open Sys2Proof.Machine

/-- A well-formed command brings a good telegram, if it brings one. -/
def Statement (i : Instr) : Prop :=
  i.wf = true → ∀ p, i.telegram = some p → telegramGood p.2 = true

/-- A header and a body in their ranges make a good telegram. -/
theorem good_of_header (h : Header) (k : Kind) (r : Route) (body : List Byte)
    (hh : h.good r = true) (hb : body.length ≤ 48) :
    telegramGood (h.telegram k r body) = true := by
  simp only [Header.good, Bool.and_eq_true, decide_eq_true_eq] at hh
  simp [telegramGood, Header.telegram, hh, hb]

theorem powerOnReset (straps : BitVec 7) :
    Statement (.powerOnReset straps) := by
  rintro - p h
  simp [Instr.telegram] at h

theorem acquisitionCycle (currents : Vector Nat 8) :
    Statement (.acquisitionCycle currents) := by
  rintro - p h
  simp [Instr.telegram] at h

theorem badTelegram (side : Side) (bytes : List Byte) :
    Statement (.badTelegram side bytes) := by
  rintro - p h
  simp [Instr.telegram] at h

theorem goodTelegramProving (side : Side) (telegram : Telegram) :
    Statement (.goodTelegramProving side telegram) := by
  rintro hw p h
  simp only [Instr.telegram, Option.some.injEq] at h
  subst h
  exact hw

theorem idleTelegram (side : Side) (header : Header) (body : List Byte) :
    Statement (.idleTelegram side header body) := by
  rintro hw p h
  simp only [Instr.wf, Bool.and_eq_true, bodyFits, decide_eq_true_eq] at hw
  simp only [Instr.telegram, Option.some.injEq] at h
  subst h
  exact good_of_header _ _ _ _ hw.1 hw.2

theorem pathTelegram (side : Side) (kind : Kind) (header : Header) (body : List Byte) :
    Statement (.pathTelegram side kind header body) := by
  rintro hw p h
  simp only [Instr.wf, Bool.and_eq_true, bodyFits, decide_eq_true_eq] at hw
  simp only [Instr.telegram, Option.some.injEq] at h
  subst h
  exact good_of_header _ _ _ _ hw.1.2 hw.2

theorem endTelegram (side : Side) (both : Bool) (kind : Kind) (header : Header) (body : List Byte) :
    Statement (.endTelegram side both kind header body) := by
  rintro hw p h
  simp only [Instr.wf, Bool.and_eq_true, bodyFits, decide_eq_true_eq] at hw
  simp only [Instr.telegram, Option.some.injEq] at h
  subst h
  exact good_of_header _ _ _ _ hw.1.2 hw.2

theorem sampleTelegram (side : Side) (both : Bool) (header : Header) (body : List Byte) :
    Statement (.sampleTelegram side both header body) := by
  rintro hw p h
  simp only [Instr.wf, Bool.and_eq_true, bodyFits, decide_eq_true_eq] at hw
  simp only [Instr.telegram, Option.some.injEq] at h
  subst h
  exact good_of_header _ _ _ _ hw.1 hw.2

theorem zoneOrder (side : Side) (header : Header) (body : List Byte) :
    Statement (.zoneOrder side header body) := by
  rintro hw p h
  simp only [Instr.wf, Bool.and_eq_true, bodyFits, decide_eq_true_eq] at hw
  simp only [Instr.telegram, Option.some.injEq] at h
  subst h
  exact good_of_header _ _ _ _ hw.1 hw.2

theorem zoneReply (side : Side) (both : Bool) (header : Header) (body : List Byte) :
    Statement (.zoneReply side both header body) := by
  rintro hw p h
  simp only [Instr.wf, Bool.and_eq_true, bodyFits, decide_eq_true_eq] at hw
  simp only [Instr.telegram, Option.some.injEq] at h
  subst h
  exact good_of_header _ _ _ _ hw.1 hw.2

theorem bind (side : Side) (header : Header) (body : List Byte) :
    Statement (.bind side header body) := by
  rintro hw p h
  simp only [Instr.wf, Bool.and_eq_true, bodyFits, decide_eq_true_eq] at hw
  simp only [Instr.telegram, Option.some.injEq] at h
  subst h
  exact good_of_header _ _ _ _ hw.1 hw.2

theorem bindReply (side : Side) (both : Bool) (header : Header) (body : List Byte) :
    Statement (.bindReply side both header body) := by
  rintro hw p h
  simp only [Instr.wf, Bool.and_eq_true, bodyFits, decide_eq_true_eq] at hw
  simp only [Instr.telegram, Option.some.injEq] at h
  subst h
  exact good_of_header _ _ _ _ hw.1 hw.2

theorem unbind (side : Side) (header : Header) (body : List Byte) :
    Statement (.unbind side header body) := by
  rintro hw p h
  simp only [Instr.wf, Bool.and_eq_true, bodyFits, decide_eq_true_eq] at hw
  simp only [Instr.telegram, Option.some.injEq] at h
  subst h
  exact good_of_header _ _ _ _ hw.1 hw.2

theorem teardown (side : Side) (header : Header) (body : List Byte) :
    Statement (.teardown side header body) := by
  rintro hw p h
  simp only [Instr.wf, Bool.and_eq_true, bodyFits, decide_eq_true_eq] at hw
  simp only [Instr.telegram, Option.some.injEq] at h
  subst h
  exact good_of_header _ _ _ _ hw.1 hw.2

theorem fanSet (side : Side) (header : Header) (object first second : Byte) :
    Statement (.fanSet side header object first second) := by
  rintro hw p h
  simp only [Instr.telegram, Option.some.injEq] at h
  subst h
  exact good_of_header _ _ _ _ hw (by simp)

theorem fanRelease (side : Side) (header : Header) (object first second : Byte) :
    Statement (.fanRelease side header object first second) := by
  rintro hw p h
  simp only [Instr.telegram, Option.some.injEq] at h
  subst h
  exact good_of_header _ _ _ _ hw (by simp)

theorem tripReset (side : Side) (header : Header) (object first second : Byte) :
    Statement (.tripReset side header object first second) := by
  rintro hw p h
  simp only [Instr.telegram, Option.some.injEq] at h
  subst h
  exact good_of_header _ _ _ _ hw (by simp)

theorem doorRelease (side : Side) (header : Header) (object first second : Byte) :
    Statement (.doorRelease side header object first second) := by
  rintro hw p h
  simp only [Instr.telegram, Option.some.injEq] at h
  subst h
  exact good_of_header _ _ _ _ hw (by simp)

theorem alertClear (side : Side) (header : Header) (object first second : Byte) :
    Statement (.alertClear side header object first second) := by
  rintro hw p h
  simp only [Instr.telegram, Option.some.injEq] at h
  subst h
  exact good_of_header _ _ _ _ hw (by simp)

theorem publishNow (side : Side) (header : Header) (object first second : Byte) :
    Statement (.publishNow side header object first second) := by
  rintro hw p h
  simp only [Instr.telegram, Option.some.injEq] at h
  subst h
  exact good_of_header _ _ _ _ hw (by simp)

theorem read (side : Side) (header : Header) (object index part : Byte) :
    Statement (.read side header object index part) := by
  rintro hw p h
  simp only [Instr.telegram, Option.some.injEq] at h
  subst h
  exact good_of_header _ _ _ _ hw (by simp)

theorem startOperation (side : Side) (header : Header) (object index part : Byte) :
    Statement (.startOperation side header object index part) := by
  rintro hw p h
  simp only [Instr.telegram, Option.some.injEq] at h
  subst h
  exact good_of_header _ _ _ _ hw (by simp)

theorem restart (side : Side) (header : Header) (object index part : Byte) :
    Statement (.restart side header object index part) := by
  rintro hw p h
  simp only [Instr.telegram, Option.some.injEq] at h
  subst h
  exact good_of_header _ _ _ _ hw (by simp)

theorem writeNodeParameters (side : Side) (header : Header) (index part : Byte) (data : List Byte) :
    Statement (.writeNodeParameters side header index part data) := by
  rintro hw p h
  simp only [Instr.wf, Bool.and_eq_true, dataFit, decide_eq_true_eq] at hw
  simp only [Instr.telegram, Option.some.injEq] at h
  subst h
  exact good_of_header _ _ _ _ hw.1 (by simp; omega)

theorem writeChannel (side : Side) (header : Header) (index part : Byte) (data : List Byte) :
    Statement (.writeChannel side header index part data) := by
  rintro hw p h
  simp only [Instr.wf, Bool.and_eq_true, dataFit, decide_eq_true_eq] at hw
  simp only [Instr.telegram, Option.some.injEq] at h
  subst h
  exact good_of_header _ _ _ _ hw.1 (by simp; omega)

theorem writeContributionEntry (side : Side) (header : Header) (index part : Byte) (data : List Byte) :
    Statement (.writeContributionEntry side header index part data) := by
  rintro hw p h
  simp only [Instr.wf, Bool.and_eq_true, dataFit, decide_eq_true_eq] at hw
  simp only [Instr.telegram, Option.some.injEq] at h
  subst h
  exact good_of_header _ _ _ _ hw.1 (by simp; omega)

theorem writeGroup (side : Side) (header : Header) (index part : Byte) (data : List Byte) :
    Statement (.writeGroup side header index part data) := by
  rintro hw p h
  simp only [Instr.wf, Bool.and_eq_true, dataFit, decide_eq_true_eq] at hw
  simp only [Instr.telegram, Option.some.injEq] at h
  subst h
  exact good_of_header _ _ _ _ hw.1 (by simp; omega)

theorem writeDoor (side : Side) (header : Header) (index part : Byte) (data : List Byte) :
    Statement (.writeDoor side header index part data) := by
  rintro hw p h
  simp only [Instr.wf, Bool.and_eq_true, dataFit, decide_eq_true_eq] at hw
  simp only [Instr.telegram, Option.some.injEq] at h
  subst h
  exact good_of_header _ _ _ _ hw.1 (by simp; omega)

theorem writeLeg (side : Side) (header : Header) (index part : Byte) (data : List Byte) :
    Statement (.writeLeg side header index part data) := by
  rintro hw p h
  simp only [Instr.wf, Bool.and_eq_true, dataFit, decide_eq_true_eq] at hw
  simp only [Instr.telegram, Option.some.injEq] at h
  subst h
  exact good_of_header _ _ _ _ hw.1 (by simp; omega)

theorem writeInputProfile (side : Side) (header : Header) (index part : Byte) (data : List Byte) :
    Statement (.writeInputProfile side header index part data) := by
  rintro hw p h
  simp only [Instr.wf, Bool.and_eq_true, dataFit, decide_eq_true_eq] at hw
  simp only [Instr.telegram, Option.some.injEq] at h
  subst h
  exact good_of_header _ _ _ _ hw.1 (by simp; omega)

theorem writeDenied (side : Side) (header : Header) (object : DeniedObject) (index part : Byte) (data : List Byte) :
    Statement (.writeDenied side header object index part data) := by
  rintro hw p h
  simp only [Instr.wf, Bool.and_eq_true, dataFit, decide_eq_true_eq] at hw
  simp only [Instr.telegram, Option.some.injEq] at h
  subst h
  exact good_of_header _ _ _ _ hw.1 (by simp; omega)

theorem silenceTimerExpiry (side : Side) :
    Statement (.silenceTimerExpiry side) := by
  rintro - p h
  simp [Instr.telegram] at h

theorem errorScoreDecay (side : Side) :
    Statement (.errorScoreDecay side) := by
  rintro - p h
  simp [Instr.telegram] at h

theorem idleTimerExpiry (side : Side) :
    Statement (.idleTimerExpiry side) := by
  rintro - p h
  simp [Instr.telegram] at h

theorem transmissionComplete (side : Side) :
    Statement (.transmissionComplete side) := by
  rintro - p h
  simp [Instr.telegram] at h

theorem debouncedLevelChange (input : Fin 24) (level : Bool) :
    Statement (.debouncedLevelChange input level) := by
  rintro - p h
  simp [Instr.telegram] at h

theorem firstReading (input : Fin 24) (level : Bool) :
    Statement (.firstReading input level) := by
  rintro - p h
  simp [Instr.telegram] at h

theorem ageingStep :
    Statement (.ageingStep) := by
  rintro - p h
  simp [Instr.telegram] at h

theorem drainTick :
    Statement (.drainTick) := by
  rintro - p h
  simp [Instr.telegram] at h

theorem startTimerExpiry (group : Fin 4) :
    Statement (.startTimerExpiry group) := by
  rintro - p h
  simp [Instr.telegram] at h

theorem stageUpTimerExpiry (group : Fin 4) :
    Statement (.stageUpTimerExpiry group) := by
  rintro - p h
  simp [Instr.telegram] at h

theorem coastTimerExpiry (group : Fin 4) :
    Statement (.coastTimerExpiry group) := by
  rintro - p h
  simp [Instr.telegram] at h

theorem restTimerExpiry (group : Fin 4) :
    Statement (.restTimerExpiry group) := by
  rintro - p h
  simp [Instr.telegram] at h

theorem runMinTimerExpiry (group : Fin 4) :
    Statement (.runMinTimerExpiry group) := by
  rintro - p h
  simp [Instr.telegram] at h

theorem windmillTimerExpiry (group : Fin 4) :
    Statement (.windmillTimerExpiry group) := by
  rintro - p h
  simp [Instr.telegram] at h

theorem jamTimerExpiry (door : Fin 2) :
    Statement (.jamTimerExpiry door) := by
  rintro - p h
  simp [Instr.telegram] at h

theorem relatchTimerExpiry (door : Fin 2) :
    Statement (.relatchTimerExpiry door) := by
  rintro - p h
  simp [Instr.telegram] at h

theorem leftOpenTimerExpiry (door : Fin 2) :
    Statement (.leftOpenTimerExpiry door) := by
  rintro - p h
  simp [Instr.telegram] at h

theorem assistTailTimerExpiry (door : Fin 2) :
    Statement (.assistTailTimerExpiry door) := by
  rintro - p h
  simp [Instr.telegram] at h

theorem faultTimerExpiry (door : Fin 2) :
    Statement (.faultTimerExpiry door) := by
  rintro - p h
  simp [Instr.telegram] at h

theorem ackWaitTimerExpiry (zone : Fin 32) :
    Statement (.ackWaitTimerExpiry zone) := by
  rintro - p h
  simp [Instr.telegram] at h

theorem bindWaitTimerExpiry (zone : Fin 32) :
    Statement (.bindWaitTimerExpiry zone) := by
  rintro - p h
  simp [Instr.telegram] at h

theorem samplingStrobe (pins : BitVec 24) :
    Statement (.samplingStrobe pins) := by
  rintro - p h
  simp [Instr.telegram] at h

theorem uptimeSecond :
    Statement (.uptimeSecond) := by
  rintro - p h
  simp [Instr.telegram] at h

end Sys2Proof.Laws.Wf
end

