-- ==== Sys2Proof/Laws/Supply.lean ====
section
/-!
SUPPORT. What the draw tests answer and what the operations of the leg accounts and of the start
queue change, said once.
-/

namespace Sys2Proof.Machine

/-! ### Draw tests -/

/-- A covering leg is available and its free current covers the amount. -/
theorem Fans.coveringLeg_some {F : Fans} {a : Nat} {l : Leg} (h : F.coveringLeg a = some l) :
    (F.leg l).available = true ∧ a ≤ (F.leg l).free := by
  unfold Fans.coveringLeg at h
  split at h <;> simp only [Option.some.injEq, reduceCtorEq] at h <;> subst h <;>
    simp_all [Fans.leg, Fans.largerFree]
  split <;> simp_all

/-- What a NORMAL draw test that names a leg has found (R79). -/
theorem Fans.normalTest_some {F : Fans} {a : Nat} {l : Leg} (h : F.normalTest a = some l) :
    ((F.leg l).available = true ∧ a ≤ (F.leg l).free) ∨ (a = 0 ∧ l = .l1) := by
  unfold Fans.normalTest at h
  split at h
  · rename_i h'
    cases h
    exact .inl (Fans.coveringLeg_some h')
  · split at h
    · exact .inr ⟨‹_›, by simpa using h.symm⟩
    · exact absurd h (by simp)

/-- What a stage-up test that names a leg has found (R82). -/
theorem Fans.stageUpTest_some {F : Fans} {env : FanEnv} {p : Authority} {z : Option (Fin 32)}
    {present : Option Leg} {a : Nat} {l : Leg} (h : F.stageUpTest env p z present a = some l) :
    present = some l ∧ (F.leg l).available = true := by
  unfold Fans.stageUpTest at h
  split at h
  · exact absurd h (by simp)
  · simp only [Option.ite_none_right_eq_some, Option.some.injEq, Bool.and_eq_true] at h
    obtain ⟨⟨ha, -⟩, rfl⟩ := h
    exact ⟨rfl, ha⟩

/-! ### Reserves -/

/-- A granted reserve: nothing on no leg, or the amount on a leg that covers it (R85). -/
theorem Fans.reserve_cases {F G : Fans} {z : Fin 32} {a : Nat} (h : F.reserve z a = some G) :
    (a = 0 ∧ G = F.modReserve z fun _ => { leg := none, original := 0, remaining := 0 }) ∨
      ∃ l, a ≠ 0 ∧ F.coveringLeg a = some l ∧
        G = (F.modReserve z fun _ => { leg := some l, original := a, remaining := a }).modLeg l
          fun r => { r with reserved := r.reserved + a } := by
  unfold Fans.reserve at h
  split at h
  · exact .inl ⟨‹_›, by simpa using h.symm⟩
  · split at h
    · exact absurd h (by simp)
    · rename_i ha _ l hl
      exact .inr ⟨l, ha, hl, by simpa using h.symm⟩

/-! ### The start queue (R89) -/

/-- An entry that joins stands in the queue with those that stood there. -/
theorem mem_joinQueue {q : List StartEntry} {e x : StartEntry} :
    x ∈ joinQueue q e ↔ x = e ∨ x ∈ q := by
  unfold joinQueue
  cases e.priority <;> cases h : x.priority <;>
    simp only [List.mem_append, List.mem_filter, List.mem_singleton, h, beq_iff_eq, reduceCtorEq, and_true,
      and_false, false_or, or_comm]

/-- An entry that joins keeps FIRE entries ahead of NORMAL ones. -/
theorem joinQueue_pairwise {q : List StartEntry} {e : StartEntry}
    (h : q.Pairwise fun a b => a.priority = .normal → b.priority = .normal) :
    (joinQueue q e).Pairwise fun a b => a.priority = .normal → b.priority = .normal := by
  unfold joinQueue
  cases he : e.priority with
  | normal =>
    exact List.pairwise_append.2 ⟨h, List.pairwise_singleton _ _, by simp [he]⟩
  | fire =>
    refine List.pairwise_append.2 ⟨List.pairwise_append.2 ⟨h.filter _, List.pairwise_singleton _ _, ?_⟩,
      h.filter _, ?_⟩
    · intro a ha b _ hn
      simp [hn] at ha
    · intro a _ b hb _
      simpa using (List.mem_filter.1 hb).2

/-- An entry that leaves keeps the order of the others. -/
theorem withoutGroup_sublist (q : List StartEntry) (g : Fin 4) : (withoutGroup q g).Sublist q :=
  List.filter_sublist

/-! ### Frames -/

/-- A released reserve leaves its FREE values (R85). -/
theorem Fans.release_self (F : Fans) (z : Fin 32) : (F.release z).reserves[z] = {} := by
  unfold Fans.release Fans.modReserve
  simp [upd]

/-- A release leaves the groups, the queue and the slot. -/
theorem Fans.release_frame (F : Fans) (z : Fin 32) :
    (F.release z).groups = F.groups ∧ (F.release z).queue = F.queue ∧ (F.release z).slot = F.slot ∧
      (F.release z).choices = F.choices := by
  unfold Fans.release Fans.modReserve
  dsimp only
  split <;> simp

/-- A refill leaves the groups, the queue and the slot (R84). -/
theorem Fans.refill_frame (F : Fans) (env : FanEnv) (z : Option (Fin 32)) (l : Leg) (a : Nat) :
    (F.refill env z l a).groups = F.groups ∧ (F.refill env z l a).queue = F.queue ∧
      (F.refill env z l a).slot = F.slot ∧ (F.refill env z l a).choices = F.choices := by
  unfold Fans.refill Fans.modReserve
  split
  · exact ⟨rfl, rfl, rfl, rfl⟩
  · dsimp only
    split <;> simp

/-- A returned draw leaves the queue, the slot, and every other group; its own group has no supply
record (R84). -/
theorem Fans.returnDraw_frame (F : Fans) (env : FanEnv) (g : Fin 4) :
    (F.returnDraw env g).queue = F.queue ∧ (F.returnDraw env g).slot = F.slot ∧
      (F.returnDraw env g).choices = F.choices ∧
      (F.returnDraw env g).groups =
        if F.groups[g].leg = none then F.groups
        else upd F.groups g fun f =>
          { f with leg := none, draw := 0, reserveZone := none, reserveTaken := 0 } := by
  unfold Fans.returnDraw
  dsimp only
  cases h : F.groups[g].leg with
  | none => simp
  | some l =>
    obtain ⟨h1, h2, h3, h4⟩ := Fans.refill_frame
      (F.modLeg l fun r => { r with drawn := r.drawn - F.groups[g].draw }) env
      F.groups[g].reserveZone l F.groups[g].reserveTaken
    simp only [Fans.modGroup, h1, h2, h3, h4, Fans.modLeg_groups, Fans.modLeg_queue, Fans.modLeg_slot,
      Fans.modLeg_choices, reduceCtorEq, if_false, and_self]

end Sys2Proof.Machine
end

