-- ==== Sys2Proof/Tests/Slice0.lean ====
section
/-!
SUPPORT. Tests: the well-formedness checks, the manual's worked cases, and for every statement with
hypotheses a witness that meets them. Expected values come from the manual's text (the section is named).
-/

namespace Sys2Proof.Tests

open Sys2Proof.Machine

-- The tests run one after the other: each waits for the kernel, and a thread for each would not fit.
set_option Elab.async false

/-! ### States the tests share -/

/-- An UP side with nothing to send. -/
def upSide : SideUnit := { state := .up, silence := some 20 }

/-- An OPERATIONAL node 5 with both sides UP. -/
def node : Node :=
  { Node.reset 5 with runState := .operational, line := { west := upSide, east := upSide } }

/-- Node 5 with one group machine changed. -/
def withFan (g : Fin 4) (f : Fan → Fan) : Node :=
  { node with fans := { node.fans with groups := upd node.fans.groups g f } }

/-- Node 5 with one door changed. -/
def withDoor (d : Fin 2) (f : Door → Door) : Node := { node with doors := upd node.doors d f }

/-- Node 5 with one zone entry changed. -/
def withZone (z : Fin 32) (f : Zone → Zone) : Node := { node with zones := upd node.zones z f }

/-- Node 5 with one debounced level established. -/
def withLevel (i : Fin 24) (v : Bool) (n : Node) : Node :=
  { n with inputs := upd n.inputs i fun p => { p with level := some v } }

/-- A header of a telegram that passes node 5. -/
def passing : Header := ⟨.control, 4, 9, 0, 17⟩

/-- A header of a telegram for node 5 from the west head end. -/
def forUs : Header := ⟨.control, 4, 5, 0, 17⟩

/-- A header of an END or BOTH_ENDS telegram of node 14. -/
def toEnds : Header := ⟨.sample, 3, 0, 14, 41⟩

/-- A header of a ZONE telegram for zone 7. -/
def toZone : Header := ⟨.alarm, 3, 7, 0, 60⟩

/-- The node a command leaves. -/
def after (c : Instr) (n : Node) : Node :=
  match exec c ⟨n, []⟩ with
  | .next s => s.node
  | _ => n

/-! ### Well-formedness: an ill-formed term for each check -/

theorem test_wf_hop : (Instr.fanSet .west ⟨.control, 127, 5, 0, 1⟩ 0 1 0).wf = false := by decide
theorem test_wf_path_target : (Instr.bind .west ⟨.control, 1, 0, 0, 1⟩ [7, 1, 0]).wf = false := by
  decide
theorem test_wf_zone_target : (Instr.teardown .east ⟨.alarm, 1, 32, 0, 1⟩ []).wf = false := by decide
theorem test_wf_end_target :
    (Instr.sampleTelegram .east true ⟨.sample, 1, 1, 14, 1⟩ [0, 0, 0, 0]).wf = false := by decide
theorem test_wf_origin : (Instr.read .west ⟨.service, 1, 5, 128, 1⟩ 0 0 0).wf = false := by decide
theorem test_wf_body : (Instr.zoneReply .west false toEnds (List.replicate 49 0)).wf = false := by
  decide
theorem test_wf_data : (Instr.writeChannel .west forUs 0 0 (List.replicate 45 0)).wf = false := by
  decide
theorem test_wf_path_kind : (Instr.pathTelegram .west .bind passing [7, 1, 0]).wf = false := by decide
theorem test_wf_end_kind : (Instr.endTelegram .west false .sample toEnds []).wf = false := by decide
theorem test_wf_good_is_not_bad :
    (Instr.badTelegram .west (wireBytes (forUs.telegram .order .path [0, 0, 1, 0]))).wf = false := by
  decide +kernel
theorem test_wf_telegram :
    (Instr.goodTelegramProving .west (toZone.telegram .teardown .path [])).wf = true ∧
      (Instr.goodTelegramProving .west (forUs.telegram .teardown .zone [])).wf = true ∧
      (Instr.goodTelegramProving .west (passing.telegram .idle .toEnd [])).wf = false := by decide

/-! ### No word spells a command -/

theorem test_decode_none : decodeTableWord 16 4660 = none ∧ State.reset.withFetchWord 16 4660 =
    State.reset := ⟨rfl, rfl⟩

/-! ### Worked cases of the manual -/

/-- R63: the CRC parameters are those of the code whose check value over "123456789" is 29B1h. -/
theorem test_crc : crc [0x31, 0x32, 0x33, 0x34, 0x35, 0x36, 0x37, 0x38, 0x39] = 0x29B1 := by
  decide +kernel

/-- Section 1.1: the table of loop currents and codes (R1). -/
theorem test_converter :
    [0, 3600000, 4000000, 12000000, 20000000, 21000000, 24000000, 30000000].map converterCode =
      [0, 9830, 10923, 32768, 54613, 57343, 65535, 65535] := by decide +kernel

/-- A loop current in nanoamperes that gives a code. -/
def currentOf (code : Nat) : Nat := (code * Config.fullScale + 32767) / 65535

/-- Section 1.5, case 1: 966 with the temperature term, 967 and COMP_LOST without. -/
theorem test_calibration_compensated :
    let cfg : ChannelConfig := { kind := .co, offset := 10923, gain := 1125,
                                 compensation := some ⟨1, -40, 200⟩ }
    let t (s : ChannelState) : Vector Channel 8 := (Vector.replicate 8 ({} : Channel)).set 1
      { config := { kind := .temperature }, state := s, published := 312 }
    calibrate (t .good) cfg 25000 = ⟨966, false, false⟩ ∧
      calibrate (t .fault) cfg 25000 = ⟨967, false, true⟩ := by decide +kernel

/-- Section 1.5, cases 2 to 4. -/
theorem test_calibration_ranges :
    let c := Vector.replicate 8 ({} : Channel)
    calibrate c { kind := .velocity, offset := 32768, gain := 1500 } 30000 = ⟨-253, false, false⟩ ∧
      calibrate c { kind := .co, gain := 65535 } 65535 = ⟨32767, true, false⟩ ∧
      calibrate c { kind := .co, offset := 10923, gain := 1125 } 10000 = ⟨0, true, false⟩ := by
  decide +kernel

/-- Section 1.4, example: cycles n to n+2 of a loop that glitches and fails, and n+5. -/
theorem test_loop_supervision :
    let c : Channel := { config := { loopHold := 2 }, state := .good }
    c.supervise 9100 = ⟨.held, 1, 0, false, false, false⟩ ∧
      ({ c with state := .held, holdCount := 1 } : Channel).supervise 25000 =
        ⟨.held, 2, 1, false, false, false⟩ ∧
      ({ c with state := .held, holdCount := 2, restoreCount := 1 } : Channel).supervise 310 =
        ⟨.fault, 0, 0, false, true, false⟩ ∧
      ({ c with state := .fault, restoreCount := 2 } : Channel).supervise 25080 =
        ⟨.good, 0, 0, true, false, true⟩ := by decide +kernel

/-- Section 2.2, cases 1 and 2. -/
theorem test_smoothing :
    let a := ({ config := { k := 2 }, smoothing := 240640 } : Channel).smooth false 966
    let b := ({ config := { k := 3 }, smoothing := -25600 } : Channel).smooth false (-130)
    a.smoothing = 242304 ∧ a.published = 947 ∧ b.smoothing = -26560 ∧ b.published = -104 := by
  decide +kernel

/-- Section 2.3: the TWA before and after the slot closes. -/
theorem test_twa :
    let slots := List.replicate 12 57600 ++ List.replicate 4 83200
    twaOf 6 slots = 1000 ∧ twaOf 6 (closeSlot slots 83200) = 1025 := by decide +kernel

/-- Section 2.4: cycles a, c, d, e and f. -/
theorem test_levels :
    let c : ChannelConfig := { t1 := 500, t2 := 1000, t3 := 2000, hysteresis := 50 }
    c.classify .raised 1000 = .high ∧ c.classify .high 962 = .high ∧ c.classify .high 941 = .raised ∧
      c.classify .raised 2100 = .critical ∧ c.classify .critical 1940 = .high := by decide +kernel

/-- Section 2.6: the channels of the cycle in which fire is suspected; with offset 0 and gain 16384 a
code is its value. -/
def fireChannels : Vector Channel 8 :=
  (((Vector.replicate 8 ({} : Channel)).set 0
    { config := { enabled := true, kind := .temperature, gain := 16384, loopLow := 0, k := 1, t1 := 400,
                  t2 := 600, t3 := 800, hysteresis := 20 },
      state := .good, hasValue := true, smoothing := 150016, published := 586, level := .raised }).set 2
    { config := { enabled := true, kind := .opacity, gain := 16384, loopLow := 0, k := 2, t1 := 50,
                  t2 := 120, t3 := 300, hysteresis := 10 },
      state := .good, hasValue := true, smoothing := 28160, published := 110, level := .raised }).set 3
    { config := { enabled := true, kind := .co, gain := 16384, loopLow := 0, k := 3, t1 := 500,
                  t2 := 1000, t3 := 2000, hysteresis := 50 },
      state := .good, hasValue := true, smoothing := 79872, published := 312 }

/-- Section 2.6: latch, counter, sequence number and the SAMPLE on either side. -/
theorem test_acquisition_fire :
    let n : Node := { node with sensors := { channels := fireChannels, fireSuspect := false,
                                             publicationCounter := 4, sampleSequence := 41 } }
    let m := after (.acquisitionCycle (#v[640, 0, 150, 312, 0, 0, 0, 0].map currentOf)) n
    m.sensors.fireSuspect = true ∧ m.sensors.publicationCounter = 5 ∧ m.sensors.sampleSequence = 42 ∧
      (m.side .east).transmitting = some ⟨⟨.sample, .sample, .bothEnds, 0, 0, 5, 41,
        [4, 128, 2, 101, 34, 128, 0, 120, 48, 0, 1, 56]⟩, .here⟩ ∧
      m.doors[(0 : Fin 2)].causes.suspect = true := by decide +kernel

/-- Section 3.7: the link that fails with seven telegrams, of which two bring a notice. -/
theorem test_silence_expiry :
    let e (k : Kind) (c : TelegramClass) (r : Route) (t : Byte) (s : QueueSource) : Queued :=
      ⟨{ kind := k, cls := c, route := r, hop := 40, target := t, origin := 0, tag := 17,
         body := [] }, s⟩
    let w : QueueSource := .forwarded .west
    let west : SideUnit := { upSide with transmitting := some (e .idle .service .toEnd 0 .here) }
    let east : SideUnit :=
      { upSide with
        transmitting := some (e .orderReply .control .toEnd 0 w),
        alarm := [e .report .alarm .bothEnds 0 .here],
        control := [e .order .control .path 43 w],
        sample := [e .sample .sample .bothEnds 0 w, e .sample .sample .bothEnds 0 w,
                   e .sample .sample .bothEnds 0 .here],
        service := [e .service .service .path 45 w],
        neighbourId := some 41 }
    let n : Node := { node with line := { west := west, east := east } }
    let m := after (.silenceTimerExpiry .east) n
    (m.side .east).state = .down ∧ (m.side .east).neighbourId = some 41 ∧
      (m.side .west).control.map (·.telegram.body) = [[1, 5, 40, 3, 17], [1, 5, 40, 11, 17]] ∧
      m.reports.entries.map (fun r => (r.kind, r.object, r.detail)) = [(.sideDown, 1, 263)] := by
  decide +kernel

/-- Section 3.7: the fourth good telegram in a row takes the side UP. -/
theorem test_proving :
    let c : Instr := .goodTelegramProving .east (toEnds.telegram .idle .toEnd [6, 1])
    let n : Node := { node with line := { node.line with east := { neighbourId := some 41 } } }
    let m := after c (after c (after c n))
    (m.side .east).state = .proving ∧ (m.side .east).provingCount = 2 ∧
      ((after c m).side .east).state = .up ∧
      (after c m).reports.entries.map (fun r => (r.kind, r.detail)) = [(.sideUp, 41)] := by
  decide +kernel

/-- Section 4.5: the demand, the stage and the ageing of the remote entry. -/
theorem test_demand :
    let e (s : Source) (c w : Nat) (l : Level) (v : Int) : Entry :=
      { source := s, channel := c, weight := w, state := .live, level := l, value := v }
    let t : Vector Entry 16 := (((Vector.replicate 16 ({} : Entry)).set 0
      (e .here 1 100 .high 947)).set 1 (e (.node 12) 0 60 .raised 612)).set 2
        (e (.node 14) 3 120 .raised 95)
    let c : GroupConfig := { d1 := 300, d2 := 700, hd := 50 }
    demandOf t = 380 ∧ c.nextStage 0 380 = 1 ∧ c.nextStage 1 260 = 1 ∧ c.nextStage 1 160 = 0 ∧
      c.nextStage 0 280 = 0 ∧
      (({ t[2] with age := 49 } : Entry).age1 5 30).state = .held ∧
      (({ t[2] with age := 299, state := .held } : Entry).age1 5 30).state = .lapsed := by
  decide +kernel

/-- Section 5.10: the account before the fire order. -/
def fireFans : Fans :=
  { Fans.reset with
    groups := #v[{ state := .off }, { state := .running, leg := some .l2, draw := 300, stage := 1 },
                 { state := .off }, { state := .running, leg := some .l1, draw := 250, stage := 1 }]
    l1 := { capacity := 1200, available := true, drawn := 250, reserved := 800 }
    l2 := { capacity := 1000, available := true, drawn := 300 }
    reserves := (Vector.replicate 32 ({} : Reserve)).set 5 ⟨some .l1, 800, 800⟩ }

/-- Section 5.10: zone 5 BOUND, groups 0 and 2 in it. -/
def fireNode : Node :=
  { node with
    fans := fireFans
    setups := #v[{ config := { zone := some 5, highPresent := true, i2 := 450 } },
                 { config := { i1 := 300 }, demandStage := 1 },
                 { config := { zone := some 5, highPresent := true, i2 := 350 } },
                 { config := { i1 := 250 }, demandStage := 1 }]
    zones := upd node.zones 5 fun e => { e with state := .bound, equipped := true } }

/-- Section 5.10: the grant of group 0, and the order's record (local outcome OK, section 8.4). -/
theorem test_fire_order :
    let m := after (.zoneOrder .west ⟨.alarm, 3, 5, 0, 60⟩ [2, 1, 2, 1, 0, 100]) fireNode
    m.fans.groups[(0 : Fin 4)].state = .starting ∧ m.fans.groups[(2 : Fin 4)].state = .queued ∧
      m.fans.l1.drawn = 700 ∧ m.fans.l1.reserved = 350 ∧ m.fans.reserves[(5 : Fin 32)].remaining = 350 ∧
      m.fans.queue = [⟨2, .start, .fire, 350⟩] ∧ m.fans.slot = some (0, .start) := by decide +kernel

/-- Section 5.10: after the feedback of group 0 the grant of group 2. -/
theorem test_fire_second_grant :
    let m := after (.zoneOrder .west ⟨.alarm, 3, 5, 0, 60⟩ [2, 1, 2, 1, 0, 100])
      (withLevel 0 false fireNode)
    let k := after (.debouncedLevelChange 0 true) m
    k.fans.groups[(0 : Fin 4)].state = .running ∧ k.fans.l1.drawn = 1050 ∧ k.fans.l1.reserved = 0 ∧
      k.fans.slot = some (2, .start) ∧ k.fans.queue = [] := by decide +kernel

/-- Section 7.8: the press of PUSH. -/
theorem test_door_push :
    let n := withLevel 14 false (withDoor 0 fun d =>
      { d with state := .secured, hold := true, causes := {},
               config := { d.config with pressureChannel := some 6, assistLimit := 400 } })
    let c : Channel := { config := { kind := .dpressure }, state := .good, published := 620 }
    let m := after (.debouncedLevelChange 14 true) { n with sensors := { n.sensors with
      channels := n.sensors.channels.set 6 c } }
    let d := m.doors[(0 : Fin 2)]
    d.state = .released ∧ d.causes.code = 1 ∧ d.hold = false ∧ d.assist = true ∧ d.beacon = false ∧
      d.jam = some 1000 := by decide +kernel

/-- Section 7.8: the leaf returns after 11.5 s; DOOR_CLOSED carries 11. -/
theorem test_door_closed :
    let n := withLevel 12 false (withDoor 0 fun d =>
      { d with state := .opened, causes := { request := true }, beacon := true, openedAt := 0,
               leftOpen := some 10850, config := { d.config with relatchDelay := 3 } })
    let m := after (.debouncedLevelChange 12 true) (withLevel 13 true
      { n with time := { n.time with clock := 1150 } })
    let d := m.doors[(0 : Fin 2)]
    d.state = .released ∧ d.causes.isEmpty = true ∧ d.relatch = some 300 ∧ d.beacon = false ∧
      m.reports.entries.map (fun r => (r.kind, r.detail)) = [(.doorClosed, 11)] := by decide +kernel

/-- Section 8.8, node 3: the expiry of the ack-wait timer. -/
theorem test_ack_wait :
    let n := withZone 7 fun e => { e with
      state := .bound, record := some ⟨60, .west, some .groupUnavailable, .ok, 0, 1, false, some 1⟩ }
    let m := after (.ackWaitTimerExpiry 7) n
    (m.side .west).transmitting.map (·.telegram.body) = some [7, 1, 7, 5, 0, 1] ∧
      m.zones[(7 : Fin 32)].record = none := by decide +kernel

/-- Section 9.8: at node 4 no leg covers 800; the reply is SUPPLY_SHORT and the legs stand. -/
theorem test_bind_short :
    let n : Node := { node with
      fans := { node.fans with l1 := ⟨1200, true, 600, 200⟩, l2 := ⟨1000, true, 300, 0⟩ }
      setups := #v[{ config := { zone := some 9, i2 := 450 } }, {}, {},
                   { config := { zone := some 9, i2 := 350 } }] }
    let m := after (.bind .west ⟨.control, 3, 9, 0, 33⟩ [9, 1, 0]) n
    (m.side .west).transmitting.map (·.telegram.body) = some [9, 4, 5] ∧ m.fans = n.fans ∧
      m.zones = n.zones := by decide +kernel

/-- Section 9.8: the bind that lapses at node 3 leaves a note; the OK reply that meets it is rewritten. -/
theorem test_bind_lapse :
    let n := withZone 9 fun e => { e with state := .binding, bindTag := 34, bindWait := some 1 }
    let m := after (.bindWaitTimerExpiry 9) n
    let k := after (.bindReply .east false ⟨.control, 1, 0, 6, 34⟩ [9, 0, 6]) m
    m.zones[(9 : Fin 32)] = { lapseNote := some (34, .east) } ∧
      m.reports.entries.map (fun r => (r.kind, r.object, r.detail)) = [(.bindTimeout, 9, 8704)] ∧
      (k.side .west).transmitting.map (·.telegram.body) = some [9, 5, 5] ∧
      k.zones[(9 : Fin 32)].lapseNote = none := by decide +kernel

/-- Section 10.4: a full queue of 5 ALARM and 11 INFO entries takes an ALARM report. -/
theorem test_report_full :
    let e (i : Nat) : ReportEntry :=
      ⟨if i < 5 then .sideDown else .sideUp, i, if i < 5 then .alarm else .info, 0, 1, 0, 0⟩
    let q : ReportQueue := { entries := (List.range 16).map e }
    let r := q.add 9 ⟨.fanTrip, 2, .alarm, 1⟩
    (r.entries.filter ReportEntry.isAlarm).length = 6 ∧ r.entries.length = 16 ∧ r.lost = true ∧
      r.entries.all (fun x => x.object != 5) = true ∧ r.taken.all ReportEntry.isAlarm = true ∧
      (q.add 9 ⟨.sideDown, 0, .info, 7⟩).lost = false := by decide +kernel

/-- R55, R62: a telegram that has passed 126 niches brings a HOP_LIMIT notice with hop count 127. -/
theorem test_hop_limit :
    ((after (.pathTelegram .west .order ⟨.control, 126, 9, 0, 17⟩ [0, 0, 1, 0]) node).side
      .west).transmitting.map (·.telegram.body) = some [2, 5, 127, 3, 17] := by decide +kernel

/-- Section 3.8: the bytes of a READ of leg 0, and of one beyond the legs. -/
theorem test_read_leg :
    let n : Node := { node with fans := { node.fans with l1 := ⟨1200, true, 250, 800⟩ } }
    ((after (.read .west forUs 5 0 0) n).side .west).transmitting.map (·.telegram.body) =
        some [0, 5, 0, 0, 0, 4, 176, 1, 0, 250, 3, 32, 0, 150] ∧
      ((after (.read .west forUs 5 2 0) n).side .west).transmitting.map (·.telegram.body) =
        some [0, 5, 2, 0, 1] := by decide +kernel

/-- R172: a stage above 2 is BAD_VALUE, an unknown group NO_OBJECT, a group not TRIPPED
GROUP_UNAVAILABLE, an origin between the ends DENIED. -/
theorem test_order_statuses :
    let reply (c : Instr) := ((after c node).side .west).transmitting.map (·.telegram.body)
    reply (.fanSet .west forUs 0 3 0) = some [0, 3] ∧ reply (.fanSet .west forUs 4 1 0) = some [0, 2] ∧
      reply (.tripReset .west forUs 0 0 0) = some [2, 4] ∧
      reply (.alertClear .west { forUs with origin := 3 } 0 0 0) = some [4, 5] := by decide +kernel

/-- R119: a pull code above 2 is refused with BAD_VALUE and changes nothing. -/
theorem test_write_refused :
    let m := after (.writeInputProfile .west forUs 20 0 [3, 0, 5, 0, 0]) node
    m.inputs = node.inputs ∧
      (m.side .west).transmitting.map (·.telegram.body) = some [1, 6, 20, 0, 2] := by decide +kernel

/-! ### Witnesses: for each statement with hypotheses, concrete values that meet them together -/

/-- A queued telegram. -/
def queued (k : Kind) (c : TelegramClass) (o : Byte) : Queued := ⟨⟨k, c, .toEnd, 0, 0, o, 1, []⟩, .here⟩

/-- Node 5 with its WEST side changed. -/
def withWest (f : SideUnit → SideUnit) : Node := node.modSide .west f

/-- An alarm in transmission, a full SERVICE queue, a DOWN side at score 8. -/
def busyLine : Node :=
  { node with line := {
      west := { upSide with transmitting := some (queued .report .alarm 5),
                            service := List.replicate 4 (queued .serviceReply .service 5) }
      east := { errorScore := 8 } } }

theorem witness_LineSoundKept : busyLine.line.west.Sound ∧ busyLine.line.east.Sound ∧
    ∃ t, step ⟨busyLine, [.silenceTimerExpiry .west]⟩ = .next t :=
  ⟨by decide +kernel, by decide +kernel, _, rfl⟩

/-- A full report queue. -/
def fullReports : ReportQueue :=
  { entries := (List.range 16).map fun i => ⟨.staleSource, i, .info, 0, 255, 0, 0⟩ }

theorem witness_ReportsSoundKept : fullReports.Sound ∧
    ∃ t, step ⟨{ node with reports := fullReports }, [.drainTick]⟩ = .next t :=
  ⟨by decide +kernel, _, rfl⟩

/-- A SECURED door. -/
def secured : Door := { state := .secured, hold := true, causes := {} }

theorem witness_DoorsSoundKept : (withDoor 0 fun _ => secured).DoorsSound ∧
    ∃ t, step ⟨withDoor 0 fun _ => secured, [.debouncedLevelChange 14 true]⟩ = .next t :=
  ⟨by decide +kernel, _, rfl⟩

/-- Group 0 STARTING in the slot, groups 2 and 1 waiting for it under FIRE and NORMAL. -/
def startingFans : Fans :=
  { Fans.reset with
    groups := #v[{ state := .starting, stage := 2, fwd := true, high := true, start := some 1500,
                   leg := some .l1, draw := 450 }, { state := .queued },
                 { state := .queued }, Fan.reset],
    l1 := { capacity := 6000, available := true, drawn := 450 },
    queue := [⟨2, .start, .fire, 300⟩, ⟨1, .start, .normal, 300⟩], slot := some (0, .start) }

/-- Node 5 with those groups. -/
def startingNode : Node := { node with fans := startingFans }

theorem witness_GroupsSoundKept : startingFans.Sound ∧ startingNode.StagesSound ∧
    ∃ t, step ⟨startingNode, [.startTimerExpiry 0]⟩ = .next t :=
  ⟨by decide +kernel, by decide +kernel, _, rfl⟩

/-- Group 0 ordered to stage 2 and RUNNING there, with the whole of its draw on L1. -/
def drawingNode : Node :=
  { node with
    setups := upd node.setups 0 fun s =>
      { s with config := { s.config with highPresent := true, i1 := 300, i2 := 450 },
               orderTarget := some (2, .eastward) }
    fans := { Fans.reset with
      groups := upd Fans.reset.groups 0 fun f =>
        { f with state := .running, stage := 2, fwd := true, high := true, coast := none,
                 presented := ⟨2, .eastward, .normal⟩, leg := some .l1, draw := 450 }
      l1 := { capacity := 450, available := true, drawn := 450 } } }

theorem witness_SupplySoundKept : drawingNode.ZonesSound ∧ drawingNode.SupplySound ∧
    ∃ t, step ⟨drawingNode, [.fanRelease .west forUs 0 0 0]⟩ = .next t :=
  ⟨by decide +kernel, ⟨by decide +kernel, by decide +kernel, fun l => by cases l <;> decide +kernel,
    by decide +kernel,
    by decide +kernel, by decide +kernel⟩, _, rfl⟩

/-- A record that waits for a reply. -/
def waitingRecord : Record := ⟨60, .west, some .ok, .ok, 1, 0, false, some 98⟩

/-- Zone 7 BOUND from WEST, forwarding, with a record. -/
def boundNode : Node :=
  withZone 7 fun e => { e with state := .bound, forward := true, record := some waitingRecord }

theorem witness_ZonesSoundKept : boundNode.ZonesSound ∧
    ∃ t, step ⟨boundNode, [.ackWaitTimerExpiry 7]⟩ = .next t := ⟨by decide +kernel, _, rfl⟩

theorem witness_LegAccountsBalance : fireFans.Balanced .l1 ∧ fireFans.Balanced .l2 ∧
    fireFans.reserves[(3 : Fin 32)] = {} ∧ (fireFans.reserve 3 700).isSome = true ∧
    fireFans.groups[(0 : Fin 4)].leg = none ∧
    fireFans.drawTest fireNode.fanEnv ⟨0, .start, .fire, 950⟩ = some .l1 ∧
    fireFans.drawTest fireNode.fanEnv ⟨1, .stageUp, .normal, 700⟩ = some .l2 ∧
    fireFans.groups[(3 : Fin 4)].reserveTaken ≤ fireFans.groups[(3 : Fin 4)].draw ∧
    drawingNode.fans.Balanced .l1 ∧ drawingNode.fans.Balanced .l2 ∧
    drawingNode.fans.groups[(0 : Fin 4)].draw = (drawingNode.fanEnv.config 0).i2 ∧
    (drawingNode.fanEnv.config 0).i1 ≤ (drawingNode.fanEnv.config 0).i2 ∧
    drawingNode.fans.groups[(0 : Fin 4)].leg.isSome = true ∧
    (drawingNode.fans.leg .l1).drawn + (drawingNode.fans.leg .l1).reserved ≤ 450 := by decide +kernel

theorem witness_WireRoundTrip :
    telegramGood ⟨.service, .service, .path, 126, 126, 127, 255, List.replicate 48 255⟩ = true := by
  decide +kernel

theorem witness_ConfigsRoundTrip :
    (∀ c : GroupConfig, c = { zone := some 31, i1 := 2000, i2 := 2000, startTime := 60, hd := 999 } →
      c.sound = true) ∧
      (∀ c : DoorConfig, c = { pressureChannel := some 7, assistLimit := 32767, jamTime := 2 } →
        c.sound = true) ∧
      (∀ c : ChannelConfig, c = { kind := .co, dose := true, compensation := some ⟨7, -32768, 32767⟩,
                                  offset := 65535, gain := 65535, loopHigh := 65535, loopHold := 255,
                                  k := 7, m := 7, hysteresis := 32766 } →
        c.sound = true ∧ c.offset < 65536 ∧ c.gain < 65536 ∧ c.loopHigh < 65536 ∧ c.loopHold < 256 ∧
          ∀ p ∈ c.compensation, -32768 ≤ p.coeff ∧ p.coeff ≤ 32767 ∧ -32768 ≤ p.ref ∧
            p.ref ≤ 32767) ∧
      (∀ p : Params, p = { samplePeriod := 255, publishInterval := 1, silenceLimit := 200,
                           staleAfter := 255, lapseAfter := 255, bindWait := 60,
                           permitWest := false } →
        1 ≤ p.samplePeriod ∧ p.samplePeriod ≤ 255 ∧ 1 ≤ p.publishInterval ∧
          p.publishInterval ≤ 255 ∧ 10 ≤ p.silenceLimit ∧ p.silenceLimit ≤ 200 ∧ 1 ≤ p.staleAfter ∧
          p.staleAfter ≤ p.lapseAfter ∧ p.lapseAfter ≤ 255 ∧ 1 ≤ p.bindWait ∧ p.bindWait ≤ 60 ∧
          (p.permitWest = true ∨ p.permitEast = true)) ∧
      (∀ e : Entry, e = { source := .node 126, channel := 7, weight := 255, age := 9 } →
        e.source = .node 126 ∧ e.channel ≤ 7 ∧ e.weight < 256) ∧
      (∀ p : Input, p = { debounce := 255 } → p.debounce < 256) ∧
      (∀ r : LegRecord, r = { capacity := 6000 } → r.capacity < 65536) := by
  refine ⟨?_, ?_, ?_, ?_, ?_, ?_, ?_⟩ <;> rintro _ rfl
  · decide
  · decide
  · refine ⟨by decide, by decide, by decide, by decide, by decide, ?_⟩
    simp
  · decide
  · decide
  · decide
  · decide

theorem witness_BadTelegramCounted : receiveCheck [] = none ∧
    ((withWest fun u => { u with errorScore := 6 }).side .west).errorScore < 7 ∧
    (busyLine.side .east).state ≠ .up := by decide +kernel

theorem witness_SideLeavesUp :
    let n := withWest fun u => { u with errorScore := 7 }
    (n.side .west).state = .up ∧ (n.side .west).silence.isSome = true ∧ receiveCheck [0] = none ∧
      7 ≤ (n.side .west).errorScore := by decide +kernel

theorem witness_GoodTelegramProves :
    telegramGood (toZone.telegram .teardown .zone []) = true ∧ (State.reset.node.side .west).state = .down ∧
      (∀ k ∈ [1, 2], ((withWest fun u => { u with state := .proving, provingCount := k }).side
        .west).state = .proving) := by decide +kernel

theorem witness_IdleHeard : node.Hears .west (toEnds.telegram .idle .toEnd [6, 2]) ∧
    runStateOf (2 : Byte).toNat = some .isolated ∧ (node.side .west).neighbourId = none := by
  decide +kernel

theorem witness_TelegramsRouted :
    (node.Hears .west (({ passing with hop := 125 } : Header).telegram .order .path [0, 0, 1, 0]) ∧
      pathKind .order = true ∧ (125 : Byte) + 1 ≠ passing.target ∧ node.isUp .east = true ∧
      (node.side .east).hasRoom .control = true) ∧
    (telegramGood (({ passing with hop := 126 } : Header).telegram .order .path []) = true ∧
      busyLine.isUp .west = true ∧ busyLine.isUp .east = false ∧ isReply .order = false ∧
      busyLine.validId = true ∧ (busyLine.side .west).hasRoom .control = true ∧
      telegramGood (passing.telegram .order .path []) = true ∧
      passing.hop + 1 ≠ passing.target) ∧
    (node.Hears .west (toEnds.telegram .report (endRoute true) [0]) ∧
    endKind .report = true ∧ node.isUp .east = true ∧ (node.side .east).hasRoom toEnds.cls = true) := by decide +kernel

theorem witness_SampleRead :
    let records : List (List Byte) := [[52, 64, 0, 95], [48, 80, 1, 44, 1, 64], [52, 72, 0, 95]]
    let rest : List Byte := [16, 16, 0, 1, 2]
    node.Hears .east (toEnds.telegram .sample (endRoute true) (records.flatten ++ rest)) ∧
      (∀ r ∈ records, r.length = if (r.getD 1 0).toNat / 16 % 2 = 1 then 6 else 4) ∧
      rest.length < 6 ∧ (rest.getD 1 0).toNat / 16 % 2 = 1 ∧ ([] : List Byte).length < 4 ∧
      node.isUp .west = true ∧ (node.side .west).hasRoom toEnds.cls = true := by decide +kernel

theorem witness_SideTimersAct :
    (node.side .west).idle.isSome = true ∧ (node.side .west).transmitting = none ∧
      (node.side .west).alarm = [] ∧ (node.side .west).control = [] ∧ (node.side .west).sample = [] ∧
      (node.side .west).service = [] ∧
      (let p := withWest fun u => { u with state := .proving }
       (p.side .west).state = .proving ∧ (p.side .west).silence.isSome = true) := by decide +kernel

/-- A transmitting WEST side with the given queues. -/
def sending (a c s v : List Queued) : SideUnit :=
  ((withWest fun u => { u with transmitting := some (queued .idle .service 5), alarm := a, control := c,
                               sample := s, service := v }).side .west)

theorem witness_TransmissionCompletes :
    let q := [queued .sample .sample 5]
    (sending q q q q).transmitting.isSome = true ∧ (sending q [] [] []).alarm = q ∧
      ((sending [] q [] q).alarm = [] ∧ (sending [] q [] q).control = q) ∧
      ((sending [] [] q q).control = [] ∧ (sending [] [] q q).sample = q) ∧
      ((sending [] [] [] q).sample = [] ∧ (sending [] [] [] q).service = q) ∧
      (sending [] [] [] []).service = [] := by decide +kernel

theorem witness_SampleEvicts :
    let n := withWest fun u => { u with
      transmitting := some (queued .idle .service 5),
      sample := List.replicate 11 (queued .sample .sample 3) ++ [queued .sample .sample 5] }
    n.isUp .west = true ∧ (n.side .west).sample.length = 12 ∧
      (n.side .west).transmitting.isSome = true ∧
      (n.side .west).sample = List.replicate 11 (queued .sample .sample 3) ++
        queued .sample .sample 5 :: [] ∧
      (∀ y ∈ List.replicate 11 (queued .sample .sample 3), y.telegram.origin ≠ 5) ∧
      (∀ y ∈ (n.side .west).sample, y.telegram.origin ≠ 6) := by decide +kernel

theorem witness_DrainTakesFour : ({ node with reports := fullReports } : Node).drainReady = true ∧
    node.drainReady = false := by decide +kernel

theorem witness_LevelChangeDelivered :
    ∀ i ∈ [(14 : Fin 24), 17, 18, 19, 20, 23],
      (withLevel i false node).inputs[i].level = some !true := by decide +kernel

theorem witness_FirstReadingDelivered :
    ∀ i ∈ [(2 : Fin 24), 11, 12, 15, 18, 19, 20, 23], node.inputs[i].level = none := by decide +kernel

theorem witness_CodeSupervised :
    let c : Channel := { state := .acquiring }
    let h : Channel := { state := .held, holdCount := 5, restoreCount := 2 }
    c.state ≠ .off ∧ c.config.inLimit 9830 = c.config.inLimit 57344 ∧
      c.config.inLimit 9829 = c.config.inLimit 57345 ∧ c.config.loopHold ≠ 0 ∧
      ({ loopHold := 0 } : ChannelConfig).loopHold = 0 ∧ h.config.loopHold ≤ h.holdCount ∧
      ({ h with holdCount := 4 } : Channel).holdCount < h.config.loopHold ∧
      (h.supervise 9830).state = .good ∧ (h.supervise 9829).state = .fault ∧
      (({ h with holdCount := 4 } : Channel).supervise 57345).state = .held := by decide +kernel

theorem witness_CalibrationFormed :
    let cs := (Vector.replicate 8 ({} : Channel)).set 7
      { config := { kind := .temperature }, state := .held, published := 312 }
    cs[(7 : Fin 8)].config.kind = .temperature ∧ cs[(7 : Fin 8)].state = .held ∧
      (-40 : Int) * (cs[(7 : Fin 8)].published - 200) = -4480 ∧
      cs[(6 : Fin 8)].config.kind ≠ .temperature ∧
      (({ state := .acquiring } : Channel).supervise 57344).state = .good := by decide +kernel

theorem witness_DoseAccumulated :
    let c : Channel :=
      { config := { kind := .co, dose := true, m := 1 }, published := 32767, openCount := 1,
        openSum := 32767, closedSlots := List.replicate 16 65534, twa := some 32767 }
    (0 ≤ c.published ∧ c.published ≤ 32767 ∧ c.openCount < 2 ^ c.config.m ∧
      c.openSum ≤ c.openCount * 32767 ∧ c.closedSlots.length ≤ 16 ∧
      (∀ x ∈ c.closedSlots, x ≤ 2 ^ c.config.m * 32767) ∧ c.twa = some 32767) ∧
      c.config.dose = true ∧ c.openCount + 1 = 2 ^ c.config.m ∧
      (0 : Nat) + 1 < 2 ^ c.config.m := by decide +kernel

theorem witness_AcquisitionRuns :
    let n : Node := { node with sensors := { node.sensors with
      channels := node.sensors.channels.set 3 { state := .acquiring } } }
    let own : Entry := { source := .here, channel := 3 }
    let c : Contribution := ⟨(Vector.replicate 16 ({} : Entry)).set 2 own, 0⟩
    let m := after (.acquisitionCycle (Vector.replicate 8 12000000)) { n with contribution := c }
    n.sensors.channels[(3 : Fin 8)].state ≠ .off ∧ n.sensors.channels[(7 : Fin 8)].state = .off ∧
      c.entries[(2 : Fin 16)].source = .here ∧ c.entries[(2 : Fin 16)].channel = (3 : Fin 8).val ∧
      m.sensors.channels[(3 : Fin 8)].quality.fault = false ∧
      m.sensors.channels[(3 : Fin 8)].included = true ∧ n.params.publishInterval = 10 ∧
      n.sensors.publicationCounter = 0 ∧ c.entries[(0 : Fin 16)].source ≠ .here ∧
      n.runState ≠ .unconfigured ∧ n.validId = true ∧ n.isUp .west = true ∧
      (n.side .west).hasRoom .sample = true := by
  decide +kernel

theorem witness_LevelClassified :
    let c : ChannelConfig := { t1 := 50, t2 := 120, t3 := 300, hysteresis := 10 }
    c.t1 ≤ c.t2 ∧ c.t2 ≤ c.t3 ∧ c.hysteresis < c.t1 ∧
      (levelCode .normal < levelCode .high ∧ ((c.threshold .high : Nat) : Int) ≤ 120) ∧
      ((109 : Int) < c.threshold .high - c.hysteresis) ∧
      ((c.threshold .high : Int) - c.hysteresis ≤ 110) ∧
      (({ state := .acquiring } : Channel).supervise 9830).state = .good := by decide +kernel

theorem witness_FirstValueTaken :
    (({ state := .acquiring } : Channel).supervise 57344).state = .good ∧
      (({ state := .fault, restoreCount := 2 } : Channel).supervise 9830).state = .good := by
  decide +kernel

theorem witness_LevelVariableFormed :
    let c : Channel := { config := { kind := .co }, twa := some 1000, published := 947 }
    let v : Channel := { config := { kind := .velocity }, published := -32768 }
    let t : Channel := { config := { kind := .temperature }, published := -1 }
    c.config.kind = .co ∧ c.twa = some 1000 ∧ v.config.kind = .velocity ∧
      t.config.kind = .temperature ∧ t.published < 0 := by decide +kernel

theorem witness_SmoothingKeepsRange :
    let c : Channel := { config := { kind := .velocity, k := 7 }, smoothing := -8388608 }
    c.config.kind.bottom * 256 ≤ c.smoothing ∧ c.smoothing ≤ 32767 * 256 ∧
      c.config.kind.bottom ≤ -32768 ∧ (32767 : Int) ≤ 32767 := by decide +kernel

theorem witness_ReportsMakeRoom :
    let alarms : ReportQueue :=
      { entries := (List.range 16).map fun i => ⟨.fanTrip, i, .alarm, 0, 1, 0, 0⟩ }
    fullReports.entries.length = 16 ∧
      (∀ e ∈ fullReports.entries, e.kind ≠ .sideUp ∨ e.object ≠ 0) ∧
      fullReports.entries = [] ++ ⟨.staleSource, 0, .info, 0, 255, 0, 0⟩ :: fullReports.entries.tail ∧
      alarms.entries.length = 16 ∧ (∀ y ∈ alarms.entries, y.severity = .alarm) ∧
      (∀ e ∈ alarms.entries, e.kind ≠ .sideUp ∨ e.object ≠ 0) := by decide +kernel

theorem witness_StartTimersExpire :
    startingNode.fans.groups[(0 : Fin 4)].state = .starting ∧
      startingNode.fans.groups[(0 : Fin 4)].start.isSome = true ∧
      (withFan 0 fun f => { f with state := .running, stageUp := some 1 }).fans.groups[
        (0 : Fin 4)].stageUp.isSome = true ∧ node.fans.queue = [] := by decide +kernel

/-- Group 0 in OFF with a rest timer and a target pending, while group 1 holds the slot. -/
def restingNode : Node :=
  let n := withFan 0 fun f => { f with state := .off, rest := some 1, pending := some ⟨1, .eastward, .normal⟩ }
  { n with fans := { n.fans with slot := some (1, .stageUp) } }

theorem witness_CoastAndRestExpire :
    let held : Node := { node with runState := .unconfigured }
    node.fans.groups[(0 : Fin 4)].state = .stopping ∧ node.fans.groups[(0 : Fin 4)].coast.isSome = true ∧
      (node.fans.groups[(0 : Fin 4)].pending.getD (node.effectiveTarget 0)).stage = 0 ∧
      held.held = true ∧ held.fans.groups[(0 : Fin 4)].coast.isSome = true ∧
      restingNode.fans.groups[(0 : Fin 4)].state = .off ∧
      restingNode.fans.groups[(0 : Fin 4)].rest.isSome = true ∧
      restingNode.fans.groups[(0 : Fin 4)].pending = some ⟨1, .eastward, .normal⟩ ∧
      restingNode.held = false ∧ restingNode.setups[(0 : Fin 4)].config.needed 1 ≠ 0 ∧
      restingNode.opposed 0 .eastward = false ∧ restingNode.fans.slot.isSome = true := by decide +kernel

theorem witness_RunMinAndWindmillExpire :
    let n := withFan 0 fun f =>
      { f with state := .running, runMin := some 1, pending := some ⟨0, .eastward, .normal⟩ }
    let w : Node := { node with fans := { node.fans with
      groups := upd node.fans.groups 0 fun f => { f with state := .windmillWait, windmill := some 1 },
      slot := some (1, .start) } }
    n.fans.groups[(0 : Fin 4)].state = .running ∧ n.fans.groups[(0 : Fin 4)].runMin.isSome = true ∧
      n.fans.groups[(0 : Fin 4)].pending = some ⟨0, .eastward, .normal⟩ ∧ n.held = false ∧
      w.fans.groups[(0 : Fin 4)].state = .windmillWait ∧
      w.fans.groups[(0 : Fin 4)].windmill.isSome = true ∧ w.held = false ∧ w.fans.slot.isSome = true := by
  decide +kernel

theorem witness_GroupContactsAct :
    (let n := withLevel 0 false { startingNode with fans := { startingFans with queue := [] } }
     n.inputs[(0 : Fin 24)].level = some false ∧ n.fans.groups[(0 : Fin 4)].state = .starting ∧
       n.fans.groups[(0 : Fin 4)].pending = none ∧ n.fans.queue = [] ∧
       n.fans.slot = some (0, .start)) ∧
      (let r := withLevel 3 true (withFan 1 fun f => { f with state := .running })
       r.inputs[(3 : Fin 24)].level = some !false ∧ r.fans.groups[(1 : Fin 4)].state = .running) ∧
      (let t := withLevel 1 false startingNode
       t.inputs[(1 : Fin 24)].level = some !true ∧ t.fans.groups[(0 : Fin 4)].state = .starting) ∧
      (let l := withLevel 11 false node
       l.inputs[(11 : Fin 24)].level = some false ∧ l.fans.groups[(3 : Fin 4)].state ≠ .locked) ∧
      (let k := withLevel 11 true (withFan 3 fun f => { f with state := .locked })
       k.inputs[(11 : Fin 24)].level = some true ∧ k.fans.groups[(3 : Fin 4)].state = .locked) := by
  decide +kernel

theorem witness_DoorTimersExpire :
    (let j := withDoor 1 fun d => { d with jam := some 1 }
     let r := withDoor 1 fun d => { d with relatch := some 1 }
     j.doors[(1 : Fin 2)].state = .released ∧ j.doors[(1 : Fin 2)].jam.isSome = true ∧
       r.doors[(1 : Fin 2)].state = .released ∧ r.doors[(1 : Fin 2)].relatch.isSome = true) ∧
    (let d := (withDoor 0 fun d => { d with state := .opened, leftOpen := some 1, assistTail := some 1,
                                            faultTimer := some 1 }).doors[(0 : Fin 2)]
     d.leftOpen.isSome = true ∧ d.assistTail.isSome = true ∧ d.faultTimer.isSome = true) := by decide +kernel

/-- Node 5 with door 1 in a state and its CLOSED and LATCHED levels established. -/
def contacts (closed latched : Bool) (f : Door → Door) : Node :=
  withLevel 15 closed (withLevel 16 latched (withDoor 1 f))

theorem witness_DoorContactsAct :
    (∀ st ∈ [DoorState.secured, .released, .jammed],
      (contacts true true fun d => { d with state := st }).inputs[(15 : Fin 24)].level = some !false) ∧
    (let n := contacts false false fun d => { d with state := .opened, causes := {} }
     n.inputs[(15 : Fin 24)].level = some !true ∧ n.doors[(1 : Fin 2)].state = .opened ∧
       ({ n.doors[(1 : Fin 2)].causes with request := false } : Causes).isEmpty = true ∧
       (n.doorEnv 1).latched.isSome = true ∧ n.doors[(1 : Fin 2)].config.relatchDelay ≠ 0) ∧
    (let n := contacts true true fun d => { d with state := .secured, causes := {} }
     n.inputs[(16 : Fin 24)].level = some !false ∧ (n.doorEnv 1).closed = some true) ∧
    (let n := contacts true false fun d => { d with relatchWait := true, causes := {} }
     n.inputs[(16 : Fin 24)].level = some !true ∧ n.doors[(1 : Fin 2)].state = .released ∧
       n.doors[(1 : Fin 2)].relatchWait = true) ∧
    (let n := contacts false false fun d => { d with state := .opened }
     n.inputs[(16 : Fin 24)].level = some !true ∧ (n.doorEnv 1).closed = some false) ∧
    (let n := contacts false true fun d => { d with state := .fault, causes := { request := true } }
     n.inputs[(15 : Fin 24)].level = some !true ∧ n.inputs[(16 : Fin 24)].level = some !false ∧
       n.doors[(1 : Fin 2)].state = .fault ∧ n.doors[(1 : Fin 2)].causes.request = true ∧
       (n.doorEnv 1).closed = some false) := by decide +kernel

theorem witness_ZoneOrderAccepted :
    boundNode.Hears .west (toZone.telegram .zoneOrder .zone [2, 1, 2, 1, 0, 4]) ∧
      orderBody [2, 1, 2, 1, 0, 4] = some ⟨.fire, .westward, 2, true, 4⟩ ∧
      orderBody [2, 1, 2, 1, 0, 3] = some ⟨.fire, .westward, 2, true, 3⟩ ∧
      toZone.target.toNat = (7 : Fin 32).val ∧ boundNode.zones[(7 : Fin 32)].state = .bound ∧
      boundNode.zones[(7 : Fin 32)].inputSide = .west ∧
      boundNode.zones[(7 : Fin 32)].forward = true ∧ waitingRecord.side = .west ∧
      boundNode.isUp .east = true ∧ (boundNode.side .east).hasRoom toZone.cls = true ∧
      boundNode.validId = true ∧ (boundNode.side .west).alarm.length ≤ 3 := by decide +kernel

theorem witness_ZoneOrderRefused :
    node.Hears .east (toZone.telegram .zoneOrder .zone [2, 1, 2, 1, 0, 4]) ∧
      orderBody [2, 1, 3, 1, 0, 4] = none ∧ node.zones[(7 : Fin 32)].state ≠ .bound ∧
      boundNode.zones[(7 : Fin 32)].inputSide ≠ .east ∧
      orderBody [0, 0, 0, 0, 23, 112] = some ⟨.normal, .eastward, 0, false, 6000⟩ ∧
      node.validId = true := by decide +kernel

theorem witness_ZoneReplyTaken :
    let h : Header := ⟨.alarm, 1, 0, 7, 60⟩
    boundNode.Hears .east (h.telegram .zoneReply (endRoute false) [7, 1, 7, 6, 0, 1]) ∧
      (replyBody [7, 1, 7, 6, 0, 1]).map (fun b => (b.zone, b.final)) = some (7, true) ∧
      (replyBody [7, 0, 2, 6, 0, 1]).map (fun b => (b.zone, b.final)) = some (7, false) ∧
      boundNode.zones[(7 : Fin 32)].record = some waitingRecord ∧
      Side.east = waitingRecord.side.other ∧ h.tag = waitingRecord.tag ∧
      boundNode.validId = true ∧ boundNode.isUp waitingRecord.side = true ∧
      (boundNode.side waitingRecord.side).hasRoom h.cls = true ∧
      (boundNode.side waitingRecord.side).hasRoom .alarm = true ∧
      toZone.tag + 1 ≠ waitingRecord.tag := by decide +kernel

/-- A BIND header that has node 5 as its target, and one that passes it. -/
def bindHere : Header := ⟨.control, 4, 5, 0, 33⟩

theorem witness_BindAtTarget :
    node.Addressed .west (bindHere.telegram .bind .path [31, 1, 0]) ∧
      bindBody [31, 1, 0] = some ⟨31, 1, false⟩ ∧ node.zones[(31 : Fin 32)].state = .free ∧
      (node.fans.reserve 31 (node.reserveSum 31)).isSome = true ∧
      boundNode.Addressed .west (bindHere.telegram .bind .path [7, 1, 0]) ∧
      bindBody [7, 1, 1] = some ⟨7, 1, true⟩ ∧ boundNode.zones[(7 : Fin 32)].inputSide = .west ∧
      (let n : Node := { boundNode with line := { west := {}, east := upSide } }
       n.Addressed .east (bindHere.telegram .bind .path [7, 1, 1]) ∧
         n.zones[(7 : Fin 32)].state = .bound ∧
         (n.side n.zones[(7 : Fin 32)].inputSide).state = .down) := by decide +kernel

theorem witness_BindEntered :
    node.Hears .west (passing.telegram .bind .path [5, 5, 1]) ∧
      bindBody [5, 5, 1] = some ⟨5, 5, true⟩ ∧ node.validId = true ∧
      passing.hop + 1 ≠ passing.target ∧ 5 ≤ passing.hop.toNat + 1 ∧ node.isUp .east = true ∧
      (node.side .east).hasRoom passing.cls = true ∧ node.zones[(5 : Fin 32)].state = .free ∧
      (node.fans.reserve 5 (node.reserveSum 5)).isSome = true ∧
      boundNode.Hears .west (passing.telegram .bind .path [7, 5, 0]) ∧
      bindBody [7, 5, 0] = some ⟨7, 5, false⟩ ∧ boundNode.zones[(7 : Fin 32)].state = .bound ∧
      boundNode.zones[(7 : Fin 32)].inputSide = .west := by decide +kernel

theorem witness_BindRefused :
    node.Hears .west (bindHere.telegram .bind .path [32, 1, 0]) ∧ bindHere.hop + 1 = bindHere.target ∧
      bindBody [32, 1, 0] = some ⟨32, 1, false⟩ ∧
      (withZone 7 fun e => { e with state := .binding }).zones[(7 : Fin 32)].state = .binding ∧
      boundNode.zones[(7 : Fin 32)].inputSide ≠ .east ∧
      (let n : Node := { node with setups := upd node.setups 0 fun s =>
         { s with config := { s.config with zone := some 7, i2 := 1 } } }
       n.zones[(7 : Fin 32)].state = .free ∧ n.fans.reserve 7 (n.reserveSum 7) = none) ∧
      busyLine.Hears .west (passing.telegram .bind .path [7, 5, 0]) ∧
      bindBody [7, 5, 0] = some ⟨7, 5, false⟩ ∧ busyLine.validId = true ∧
      passing.hop + 1 ≠ passing.target ∧ 5 ≤ passing.hop.toNat + 1 ∧ busyLine.isUp .east = false ∧
      (boundNode.side boundNode.zones[(7 : Fin 32)].inputSide).state ≠ .down := by decide +kernel

theorem witness_BindReplyTaken :
    let n (before : Bool) := withZone 9 fun e =>
      { e with state := .binding, boundBefore := before, bindTag := 33 }
    let l := withZone 9 fun e => { e with lapseNote := some (33, .east) }
    let h : Header := ⟨.control, 0, 0, 6, 33⟩
    (∀ before : Bool, (n before).Hears .east (h.telegram .bindReply (endRoute false) [9, 5, 6]) ∧
      (n before).validId = true ∧ (n before).zones[(9 : Fin 32)].state = .binding ∧
      (n before).zones[(9 : Fin 32)].bindTag = h.tag ∧
      Side.east = (n before).zones[(9 : Fin 32)].inputSide.other ∧
      (n before).zones[(9 : Fin 32)].boundBefore = before) ∧
      l.Hears .east (h.telegram .bindReply (endRoute false) [9, 0, 6]) ∧
      l.zones[(9 : Fin 32)].state ≠ .binding ∧
      l.zones[(9 : Fin 32)].lapseNote = some (h.tag, .east) ∧ l.isUp .west = true ∧
      (l.side .west).hasRoom h.cls = true := by decide +kernel

theorem witness_EntryFreed :
    boundNode.zones[(7 : Fin 32)].state = .bound ∧ boundNode.zones[(7 : Fin 32)].inputSide = .west ∧
      boundNode.Hears .west (toZone.telegram .teardown .zone []) ∧
      boundNode.Hears .west (passing.telegram .unbind .path [7, 5]) ∧
      boundNode.Hears .west (passing.telegram .unbind .path [7, 6]) ∧
      (6 : Byte).toNat = passing.hop.toNat + 2 ∧ (5 : Byte).toNat ≤ passing.hop.toNat + 1 := by
  decide +kernel

theorem witness_ZoneTimersExpire :
    boundNode.zones[(7 : Fin 32)].record = some waitingRecord ∧ waitingRecord.ackWait.isSome = true ∧
      (∀ b : Bool, (withZone 9 fun e =>
        { e with state := .binding, boundBefore := b, bindWait := some 1 }).zones[
          (9 : Fin 32)].bindWait.isSome = true) := by decide +kernel

theorem witness_GroupOrdersObeyed :
    (node.Obeys .west (orderTelegram forUs 0 3 2 1) ∧ (3 : Byte).toNat = (3 : Fin 4).val ∧
      directionOf (1 : Byte).toNat = some .westward ∧
      node.Obeys .west (orderTelegram forUs 1 3 2 1)) ∧
    (let n := withFan 2 fun f => { f with state := .tripped, tripCause := some .overload }
     let m := withFan 2 fun f => { f with state := .tripped, tripCause := some .overload, coast := none }
     n.Obeys .west (orderTelegram forUs 2 2 0 0) ∧ n.fans.groups[(2 : Fin 4)].state = .tripped ∧
       n.fans.groups[(2 : Fin 4)].coast.isSome = true ∧ m.fans.groups[(2 : Fin 4)].coast = none ∧
       (m.effectiveTarget 2).stage = 0) := by decide +kernel

theorem witness_DoorAlertPublishObeyed :
    node.Obeys .west (orderTelegram forUs 3 1 1 0) ∧ unflag (1 : Byte).toNat = some true ∧
      node.Obeys .west (orderTelegram forUs 4 0 0 0) ∧
      node.Obeys .west (orderTelegram forUs 5 0 0 0) ∧ node.isUp .east = true ∧
      (node.side .east).hasRoom .sample = true ∧ (node.side .west).hasRoom .sample = true ∧
      (node.side .west).hasRoom .control = true := by decide +kernel

theorem witness_ReadServed :
    node.Addressed .west (serviceTelegram forUs 0 1 7 2 []) ∧
      objectOf (1 : Byte).toNat (7 : Byte).toNat = some (.channel 7) ∧
      43 * 2 < (node.objectBytes (.channel 7)).length := by decide +kernel

theorem witness_StartAndRestart :
    node.Serves .west (serviceTelegram forUs 3 0 0 0 []) ∧
      (let n : Node := { node with runState := .unconfigured }
       n.Serves .west (serviceTelegram forUs 2 0 0 0 []) ∧ n.runState = .unconfigured) := by
  decide +kernel

theorem witness_PlainWritesStored :
    node.Serves .west (serviceTelegram forUs 1 0 0 0 [1, 255, 10, 5, 5, 60, 1]) ∧
      (Params.parse [1, 255, 10, 5, 5, 60, 1]).isSome = true ∧
      node.Serves .west (serviceTelegram forUs 1 6 23 0 [2, 1, 0, 2, 1]) ∧
      (node.inputs[(23 : Fin 24)].write [2, 1, 0, 2, 1]).isSome = true ∧
      node.Serves .west (serviceTelegram forUs 1 5 1 0 [23, 112]) ∧ legOf 1 = some .l2 ∧
      get16 [23, 112] 0 ≤ 6000 ∧ (node.fans.leg .l2).drawn + (node.fans.leg .l2).reserved ≤ 0 ∧
      node.Serves .west (serviceTelegram forUs 1 (deniedType .zoneEntry) 31 0 []) ∧
      (objectOf 7 31).isSome = true ∧ (objectOf 8 0).isSome = true := by decide +kernel

theorem witness_RecordWritesStored :
    let n := withFan 0 fun f => { f with state := .off }
    (∀ c : ChannelConfig, c = { kind := .velocity } →
      node.Serves .west (serviceTelegram forUs 1 1 7 0 c.bytes) ∧ 28 ≤ c.bytes.length ∧
        ChannelConfig.parse c.bytes = some c ∧ node.compensationFits 7 c.compensation = true) ∧
      (∀ c : GroupConfig, c = {} → n.Serves .west (serviceTelegram forUs 1 3 0 0 c.bytes) ∧
        29 ≤ c.bytes.length ∧ GroupConfig.parse c.bytes = some c ∧
        n.airflowFits c.airflowChannel = true ∧ n.groupInUse 0 = false) ∧
      (∀ c : DoorConfig, c = {} → node.Serves .west (serviceTelegram forUs 1 4 1 0 c.bytes) ∧
        11 ≤ c.bytes.length ∧ DoorConfig.parse c.bytes = some c ∧
        node.pressureFits c.pressureChannel = true) := by
  refine ⟨?_, ?_, ?_⟩ <;> rintro _ rfl <;> decide +kernel

theorem witness_EntryWritten :
    let e : Entry := { source := .node 126, channel := 7, weight := 255 }
    node.Serves .west (serviceTelegram forUs 1 2 15 0 [126, 7, 255]) ∧
      Entry.parse [126, 7, 255] = some e ∧ node.contribution.duplicate 15 e = false ∧
      (node.side .west).hasRoom .service = true := by decide +kernel

end Sys2Proof.Tests
end

section
/-!
Settles O29 of the family of sensor channels: what loop supervision and a channel's turn do (R3, R8 to R15,
R32). First one rule per state of the supervision, then a turn as one equation with its frame, then the
statement.
-/

namespace Sys2Proof.Machine

/-! ### The limit test and the supervision, state by state (R8 to R14) -/

theorem ChannelConfig.inLimit_iff (c : ChannelConfig) (code : Nat) :
    c.inLimit code = true ↔ c.loopLow ≤ code ∧ code ≤ c.loopHigh := by
  simp [ChannelConfig.inLimit]

theorem Channel.nextRestore_inLimit (c : Channel) (code : Nat) :
    c.nextRestore (c.config.inLimit code) =
      if c.config.loopLow ≤ code ∧ code ≤ c.config.loopHigh then c.restoreCount + 1 else 0 := by
  simp only [Channel.nextRestore, ChannelConfig.inLimit_iff]

/-- Supervision sees the code through the limit test only. -/
theorem Channel.supervise_congr (c : Channel) {code code' : Nat}
    (h : c.config.inLimit code' = c.config.inLimit code) : c.supervise code' = c.supervise code := by
  simp only [Channel.supervise, h]

/-- R10 and R11: ACQUIRING and GOOD treat a code alike. -/
theorem Channel.supervise_of_acquiring_or_good (c : Channel) (code : Nat)
    (h : c.state = .acquiring ∨ c.state = .good) :
    c.supervise code =
      if c.config.loopLow ≤ code ∧ code ≤ c.config.loopHigh then ⟨.good, 0, 0, true, false, false⟩
      else superviseOut c.config.loopHold := by
  obtain h | h := h <;> simp only [Channel.supervise, h, ChannelConfig.inLimit_iff]

/-- R12: HELD ends with the third code in limit, or when the hold count is used up. -/
theorem Channel.supervise_of_held (c : Channel) (code : Nat) (h : c.state = .held) :
    c.supervise code =
      let restore := if c.config.loopLow ≤ code ∧ code ≤ c.config.loopHigh then c.restoreCount + 1 else 0
      if restore = 3 then ⟨.good, 0, 0, true, false, false⟩
      else if c.holdCount < c.config.loopHold then
        ⟨.held, c.holdCount + 1, restore, false, false, false⟩
      else ⟨.fault, 0, restore, false, true, false⟩ := by
  simp only [Channel.supervise, h, Channel.nextRestore_inLimit]

/-- R13 and R14: FAULT ends with the third code in limit. -/
theorem Channel.supervise_of_fault (c : Channel) (code : Nat) (h : c.state = .fault) :
    c.supervise code =
      let restore := if c.config.loopLow ≤ code ∧ code ≤ c.config.loopHigh then c.restoreCount + 1 else 0
      if restore = 3 then ⟨.good, 0, 0, true, false, true⟩
      else ⟨.fault, 0, restore, false, false, false⟩ := by
  simp only [Channel.supervise, h, Channel.nextRestore_inLimit]

/-- The two marks of a supervision result are entry to FAULT and the way from FAULT to GOOD. -/
theorem Channel.supervise_marks (c : Channel) (code : Nat) (hoff : c.state ≠ .off) :
    ((c.supervise code).faulted = true ↔ (c.supervise code).state = .fault ∧ c.state ≠ .fault) ∧
      ((c.supervise code).restored = true ↔ (c.supervise code).state = .good ∧ c.state = .fault) := by
  cases hs : c.state with
  | off => exact absurd hs hoff
  | acquiring | good =>
    rw [c.supervise_of_acquiring_or_good code (by simp only [hs, reduceCtorEq, true_or, or_true]),
      superviseOut]
    split_ifs <;> simp
  | held =>
    rw [c.supervise_of_held code hs]
    dsimp only
    split_ifs <;> simp
  | fault =>
    rw [c.supervise_of_fault code hs]
    dsimp only
    split_ifs <;> simp

/-! ### A turn as one equation (R3, R15, R21, R32) -/

/-- The channel as supervision leaves it, before its measurement chain. -/
def Channel.supervised (channels : Vector Channel 8) (c : Channel) (code : Nat) : Channel :=
  { c with rawCode := code, state := (c.supervise code).state,
           holdCount := (c.supervise code).holdCount,
           restoreCount := (c.supervise code).restoreCount,
           quality := (cycleResult channels c (c.supervise code) code).2 }

/-- What supervision reports of channel `i` (R11 to R14). -/
def Supervision.reports (s : Supervision) (i : Fin 8) (code : Nat) : List Report :=
  if s.faulted then [{ kind := .sensorFault, object := i, severity := .alarm, detail := code }]
  else if s.restored then
    [{ kind := .sensorRestored, object := i, severity := .info, detail := code }]
  else []

/-- The channel with its level variable classified (R30, R32). -/
def Channel.reclassified (c : Channel) : Channel :=
  let level := c.config.classify c.level c.levelVariable
  if level = c.level then c else { c with level := level, levelChanged := true }

/-- The measurement chain and the classification, which an empty input leaves out (R15, R31). -/
def Channel.measured (c : Channel) (input : ChainInput) : Channel :=
  if input = .none then c else (c.chain input).reclassified

/-- What a change of level reports (R32). -/
def levelReports (i : Fin 8) (before after : Level) : List Report :=
  if after = before then []
  else [{ kind := .levelChange, object := i, severity := levelSeverity after,
          detail := levelCode after }]

/-- `c` with the measurement and the level of `d`: configuration, raw code, supervision and quality are
those of `c`. An equation `d = c.withMeasurement d` is the frame of what measures `c`. -/
def Channel.withMeasurement (c d : Channel) : Channel :=
  { c with hasValue := d.hasValue, smoothing := d.smoothing, published := d.published,
           openSum := d.openSum, openCount := d.openCount, closedSlots := d.closedSlots, twa := d.twa,
           level := d.level, levelChanged := d.levelChanged }

theorem Channel.addDose_frame (c : Channel) : c.addDose = c.withMeasurement c.addDose := by
  unfold Channel.addDose
  dsimp only
  split_ifs <;> rfl

@[simp] theorem Channel.addDose_level (c : Channel) : c.addDose.level = c.level := by
  unfold Channel.addDose
  dsimp only
  split_ifs <;> rfl

theorem Channel.chain_frame (c : Channel) (input : ChainInput) :
    c.chain input = c.withMeasurement (c.chain input) := by
  cases input with
  | none => rfl
  | held v => exact (c.smooth false v).addDose_frame
  | fresh init v => exact (({ c with hasValue := true } : Channel).smooth init v.value).addDose_frame

@[simp] theorem Channel.chain_level (c : Channel) (input : ChainInput) :
    (c.chain input).level = c.level := by
  cases input with
  | none => rfl
  | held v => exact (c.smooth false v).addDose_level
  | fresh init v => exact (({ c with hasValue := true } : Channel).smooth init v.value).addDose_level

theorem Channel.reclassified_frame (c : Channel) :
    c.reclassified = c.withMeasurement c.reclassified := by
  unfold Channel.reclassified
  dsimp only
  split_ifs <;> rfl

theorem Channel.measured_frame (c : Channel) (input : ChainInput) :
    c.measured input = c.withMeasurement (c.measured input) := by
  unfold Channel.measured
  split_ifs
  · rfl
  · calc (c.chain input).reclassified
      _ = (c.chain input).withMeasurement (c.chain input).reclassified :=
        (c.chain input).reclassified_frame
      _ = (c.withMeasurement (c.chain input)).withMeasurement (c.chain input).reclassified :=
        congrArg (Channel.withMeasurement · (c.chain input).reclassified) (c.chain_frame input)

/-- Classifying what the measurement chain leaves and reporting the change (R32). -/
theorem Channel.chain_report (c : Channel) (input : ChainInput) (i : Fin 8) (rs : List Report) :
    let d := c.chain input
    let level := d.config.classify d.level d.levelVariable
    (if level = d.level then (d, rs)
      else ({ d with level := level, levelChanged := true },
        rs ++ [{ kind := .levelChange, object := i, severity := levelSeverity level,
                 detail := levelCode level }])) =
      (d.reclassified, rs ++ levelReports i c.level d.reclassified.level) := by
  unfold Channel.reclassified levelReports
  rw [← c.chain_level input]
  dsimp only
  split_ifs <;> simp_all

/-- A turn is the supervision, then the measurement chain, with the reports of both in that order. -/
theorem Channel.turn_eq (channels : Vector Channel 8) (i : Fin 8) (c : Channel) (code : Nat) :
    c.turn channels i code =
      let s := c.supervise code
      let d := (c.supervised channels code).measured (cycleResult channels c s code).1
      (d, s.reports i code ++ levelReports i c.level d.level) := by
  unfold Channel.turn Channel.supervised
  dsimp only
  obtain ⟨input, quality⟩ := cycleResult channels c (c.supervise code) code
  cases input with
  | none => simp [Channel.measured, levelReports, Supervision.reports]
  | fresh _ _ | held _ =>
    simp only [Channel.measured, reduceCtorEq, if_false]
    exact Channel.chain_report _ _ i _

/-- What supervision has set stands in the record after the turn. -/
theorem Channel.turn_frame (channels : Vector Channel 8) (i : Fin 8) (c : Channel) (code : Nat) :
    (c.turn channels i code).1 =
      (c.supervised channels code).withMeasurement (c.turn channels i code).1 := by
  rw [Channel.turn_eq]
  exact Channel.measured_frame _ _

theorem cycleResult_of_held (channels : Vector Channel 8) (c : Channel) (s : Supervision) (code : Nat)
    (h : s.state = .held) : (cycleResult channels c s code).2 = { held := true } := by
  simp only [cycleResult, h]

theorem cycleResult_of_fault (channels : Vector Channel 8) (c : Channel) (s : Supervision) (code : Nat)
    (h : s.state = .fault) : cycleResult channels c s code = (.none, { fault := true }) := by
  simp only [cycleResult, h]

theorem Channel.turn_quality_of_held (channels : Vector Channel 8) (i : Fin 8) (c : Channel) (code : Nat)
    (h : (c.supervise code).state = .held) :
    (c.turn channels i code).1.quality = { held := true } :=
  calc (c.turn channels i code).1.quality
    _ = (cycleResult channels c (c.supervise code) code).2 :=
      congrArg Channel.quality (c.turn_frame channels i code)
    _ = { held := true } := cycleResult_of_held channels c _ code h

/-- A turn that supervision leaves in FAULT measures nothing (R13, R15). -/
theorem Channel.turn_of_fault (channels : Vector Channel 8) (i : Fin 8) (c : Channel) (code : Nat)
    (h : (c.supervise code).state = .fault) :
    (c.turn channels i code).1 =
      { c with rawCode := code, state := .fault, holdCount := (c.supervise code).holdCount,
               restoreCount := (c.supervise code).restoreCount, quality := { fault := true } } := by
  simp only [Channel.turn_eq, Channel.supervised, Channel.measured,
    cycleResult_of_fault channels c _ code h, h, if_true]

/-! ### What a turn reports (R11 to R14, R32) -/

/-- The reports of supervision, by the states before and after the code. -/
theorem Channel.supervise_reports (c : Channel) (i : Fin 8) (code : Nat) (hoff : c.state ≠ .off) :
    (c.supervise code).reports i code =
      if (c.supervise code).state = .fault ∧ c.state ≠ .fault then
        [{ kind := .sensorFault, object := i, severity := .alarm, detail := code }]
      else if (c.supervise code).state = .good ∧ c.state = .fault then
        [{ kind := .sensorRestored, object := i, severity := .info, detail := code }]
      else [] := by
  obtain ⟨hfaulted, hrestored⟩ := c.supervise_marks code hoff
  simp only [Supervision.reports, hfaulted, hrestored]

/-- HIGH and CRITICAL are reported as alarms. -/
theorem levelSeverity_eq (l : Level) : levelSeverity l = if levelCode l < 2 then .info else .alarm := by
  cases l <;> rfl

/-! ### The statement -/

/-- Settles O29: the limit test, then supervision by the state before the code, then the turn by its
frame and its reports. -/
theorem codeSupervised : Obligations.CodeSupervised := by
  unfold Obligations.CodeSupervised
  intro channels i c code
  refine ⟨c.config.inLimit_iff code, fun _ h => c.supervise_congr h, ⟨?_, ?_, ?_, ?_, ?_⟩, ?_⟩
  case refine_1 =>
    intro h
    simp only [c.supervise_of_acquiring_or_good code h, superviseOut]
    refine ⟨fun hin => ?_, fun hout hold => ?_, fun hout hold => ?_⟩
    · simp [hin]
    · simp [hout, hold]
    · simp [hout, hold]
  case refine_2 =>
    rintro (h | h) hthird
    · simp [c.supervise_of_held code h, hthird]
    · simp [c.supervise_of_fault code h, hthird]
  case refine_3 =>
    intro h hfew hroom
    simp [c.supervise_of_held code h, hfew, hroom]
  case refine_4 =>
    intro h hfew hfull
    simp [c.supervise_of_held code h, hfew, hfull.not_gt]
  case refine_5 =>
    intro h hfew
    simp [c.supervise_of_fault code h, hfew]
  case refine_6 =>
    intro hoff
    have hframe := c.turn_frame channels i code
    refine ⟨congrArg Channel.rawCode hframe, congrArg Channel.state hframe,
      congrArg Channel.holdCount hframe, congrArg Channel.restoreCount hframe,
      c.turn_quality_of_held channels i code, c.turn_of_fault channels i code, ?_⟩
    rw [← c.supervise_reports i code hoff, ← levelSeverity_eq, Channel.turn_eq]
    rfl

end Sys2Proof.Machine
end

section
/-!
Settles O33 and O34 of the family of smoothing, dose and level classification: the first value of a channel
(R22) and the level variable (R29). First one rule per stage of the measurement chain and one per group of
kinds, then the statements.
-/

namespace Sys2Proof.Machine

/-! ### The first value of a channel (R22) -/

@[simp] theorem Channel.smooth_init_smoothing (c : Channel) (v : Int) :
    (c.smooth true v).smoothing = v * 256 := rfl

/-- Rounding loses nothing of a whole number of counts: the published value has no ramp. -/
@[simp] theorem Channel.smooth_init_published (c : Channel) (v : Int) :
    (c.smooth true v).published = v := by
  have hround : (v * 256 + 128) / 256 = v := by omega
  exact hround

@[simp] theorem Channel.smooth_hasValue (c : Channel) (init : Bool) (v : Int) :
    (c.smooth init v).hasValue = c.hasValue := rfl

@[simp] theorem Channel.addDose_hasValue (c : Channel) : c.addDose.hasValue = c.hasValue := by
  unfold Channel.addDose
  dsimp only
  split_ifs <;> rfl

/-- Once a fresh value has passed the chain, no later one is marked initialising. -/
theorem Channel.chain_fresh_hasValue (c : Channel) (init : Bool) (v : Calibrated) :
    (c.chain (.fresh init v)).hasValue = true := by
  simp only [Channel.chain, Channel.addDose_hasValue, Channel.smooth_hasValue]

/-- The input of a turn in GOOD: the calibrated code, initialising while the channel has had no value. -/
theorem cycleResult_of_good (channels : Vector Channel 8) (c : Channel) (s : Supervision) (code : Nat)
    (h : s.state = .good) :
    (cycleResult channels c s code).1 = .fresh (!c.hasValue) (calibrate channels c.config code) := by
  simp only [cycleResult, h]

/-- Settles O33: the smoothing stage on an initialising value, then the mark, which the value itself
clears. -/
theorem firstValueTaken : Obligations.FirstValueTaken := by
  unfold Obligations.FirstValueTaken
  refine ⟨fun c v => ?_, fun channels c s code hgood => ?_, fun c v => ?_, fun cfg => ?_⟩
  · exact ⟨c.smooth_init_smoothing v, c.smooth_init_published v⟩
  · exact ⟨_, cycleResult_of_good channels c s code hgood⟩
  · exact c.chain_fresh_hasValue _ v
  · rfl

/-! ### The level variable by kind (R29) -/

theorem magnitude_eq_min_abs (v : Int) : (magnitude v : Int) = min 32767 |v| := by
  simp only [magnitude, Nat.cast_min, Nat.cast_ofNat, Int.natCast_natAbs]

theorem Channel.levelVariable_of_gas_twa (c : Channel) {t : Nat}
    (h : c.config.kind = .co ∨ c.config.kind = .no2) (htwa : c.twa = some t) :
    c.levelVariable = max c.published t := by
  obtain h | h := h <;> simp only [Channel.levelVariable, h, htwa]

theorem Channel.levelVariable_of_gas_no_twa (c : Channel)
    (h : c.config.kind = .co ∨ c.config.kind = .no2) (htwa : c.twa = none) :
    c.levelVariable = c.published := by
  obtain h | h := h <;> simp only [Channel.levelVariable, h, htwa]

/-- The kinds whose sign is a direction count by their magnitude. -/
theorem Channel.levelVariable_of_directed (c : Channel)
    (h : c.config.kind = .velocity ∨ c.config.kind = .dpressure) :
    c.levelVariable = magnitude c.published := by
  obtain h | h := h <;> simp only [Channel.levelVariable, h]

theorem Channel.levelVariable_of_plain (c : Channel)
    (h : c.config.kind = .opacity ∨ c.config.kind = .temperature ∨ c.config.kind = .generic) :
    c.levelVariable = c.published := by
  obtain h | h | h := h <;> simp only [Channel.levelVariable, h]

/-- Thresholds are not negative, so a negative variable reaches none of them. -/
theorem ChannelConfig.candidate_of_neg (cfg : ChannelConfig) {x : Int} (hx : x < 0) :
    cfg.candidate x = .normal := by
  have hbelow (t : Nat) : ¬ (t : Int) ≤ x := by omega
  simp only [ChannelConfig.candidate, hbelow, if_false]

/-- Settles O34, by the three groups of kinds; the level variable of a TEMPERATURE channel keeps its
sign. -/
theorem levelVariableFormed : Obligations.LevelVariableFormed := by
  unfold Obligations.LevelVariableFormed
  intro c
  refine ⟨fun hgas => ⟨fun _ => c.levelVariable_of_gas_twa hgas, c.levelVariable_of_gas_no_twa hgas⟩,
    fun hdirected => ?_, c.levelVariable_of_plain, fun htemp hneg => ?_⟩
  · rw [c.levelVariable_of_directed hdirected, magnitude_eq_min_abs]
  · rw [c.levelVariable_of_plain (.inr (.inl htemp))]
    exact c.config.candidate_of_neg hneg

end Sys2Proof.Machine
end

section
/-!
Settles O21 of the family of the niche line: a telegram offered to a full SAMPLE queue (R52). First what a
busy transmitter and a full queue mean for a side, then the two cases of the eviction, then the statement.
-/

namespace Sys2Proof.Machine

/-! ### A side whose transmitter is busy, and a full queue (R50, R51) -/

theorem Node.modSide_congr {n : Node} {s : Side} {f g : SideUnit → SideUnit}
    (h : f (n.side s) = g (n.side s)) : n.modSide s f = n.modSide s g := by
  cases s with
  | west => exact congrArg (fun u => { n with line := { n.line with west := u } }) h
  | east => exact congrArg (fun u => { n with line := { n.line with east := u } }) h

theorem SideUnit.serve_of_busy {u : SideUnit} (hbusy : u.transmitting.isSome = true) :
    u.serve = u := by
  simp only [SideUnit.serve, hbusy, if_true]

theorem SideUnit.join_of_busy {u : SideUnit} (e : Queued) (hbusy : u.transmitting.isSome = true) :
    u.join e = u.setQueue e.telegram.cls (u.queue e.telegram.cls ++ [e]) :=
  SideUnit.serve_of_busy (by rwa [SideUnit.setQueue_transmitting])

theorem SideUnit.hasRoom_of_full {u : SideUnit} {c : TelegramClass}
    (hfull : (u.queue c).length = capacity c) : u.hasRoom c = false := by
  simp only [SideUnit.hasRoom, hfull, lt_irrefl, decide_false]

/-! ### The eviction (R52) -/

/-- A full SAMPLE queue of an UP side evicts: its side unit alone changes, so there is no report and no
notice. -/
theorem Node.offer_of_full_sample {n : Node} {s : Side} {e : Queued} (hup : n.isUp s = true)
    (hcls : e.telegram.cls = .sample) (hfull : (n.side s).sample.length = 12) :
    n.offer s e = n.modSide s (·.evictAndJoin e) := by
  have hroom : (n.side s).hasRoom .sample = false := SideUnit.hasRoom_of_full hfull
  simp [Node.offer, hup, hcls, hroom]

theorem SideUnit.join_sample_of_busy {u : SideUnit} {e : Queued} (q : List Queued)
    (hcls : e.telegram.cls = .sample) (hbusy : u.transmitting.isSome = true) :
    ({ u with sample := q } : SideUnit).join e = { u with sample := q ++ [e] } := by
  rw [SideUnit.join_of_busy (u := { u with sample := q }) e hbusy, hcls]
  rfl

/-- The first telegram of the offered one's origin is the oldest of that origin. -/
theorem SideUnit.evictAndJoin_of_same_origin {u : SideUnit} {e x : Queued} {a b : List Queued}
    (hcls : e.telegram.cls = .sample) (hbusy : u.transmitting.isSome = true)
    (hq : u.sample = a ++ x :: b) (hx : x.telegram.origin = e.telegram.origin)
    (ha : ∀ y ∈ a, y.telegram.origin ≠ e.telegram.origin) :
    u.evictAndJoin e = { u with sample := a ++ b ++ [e] } := by
  have hany : u.sample.any (·.telegram.origin == e.telegram.origin) = true :=
    List.any_eq_true.mpr ⟨x, by simp [hq], by simp [hx]⟩
  have hkept : u.sample.eraseP (·.telegram.origin == e.telegram.origin) = a ++ b := by
    rw [hq, List.eraseP_append_right _ (by simpa using ha), List.eraseP_cons_of_pos (by simp [hx])]
  simp only [SideUnit.evictAndJoin, hany, hkept, if_true]
  exact SideUnit.join_sample_of_busy _ hcls hbusy

theorem SideUnit.evictAndJoin_of_no_same_origin {u : SideUnit} {e : Queued}
    (hcls : e.telegram.cls = .sample) (hbusy : u.transmitting.isSome = true)
    (hother : ∀ y ∈ u.sample, y.telegram.origin ≠ e.telegram.origin) :
    u.evictAndJoin e = { u with sample := u.sample.tail ++ [e] } := by
  have hany : u.sample.any (·.telegram.origin == e.telegram.origin) = false :=
    List.any_eq_false.mpr (by simpa using hother)
  simp only [SideUnit.evictAndJoin, hany, Bool.false_eq_true, if_false]
  exact SideUnit.join_sample_of_busy _ hcls hbusy

/-! ### The statement -/

/-- Settles O21: the offer comes down to the eviction on the side's own unit, by whether a queued
telegram has the offered one's origin. -/
theorem sampleEvicts : Obligations.SampleEvicts := by
  unfold Obligations.SampleEvicts
  intro n s e hup hcls hfull hbusy
  rw [Node.offer_of_full_sample hup hcls hfull]
  refine ⟨fun a x b hq hx ha => Node.modSide_congr ?_, fun hother x b hq => Node.modSide_congr ?_⟩
  · exact SideUnit.evictAndJoin_of_same_origin hcls hbusy hq hx ha
  · rw [SideUnit.evictAndJoin_of_no_same_origin hcls hbusy hother, hq, List.tail_cons]

end Sys2Proof.Machine
end

section
/-!
Settles O60 of the family of the contribution table and ventilation demand: an accepted write of a
contribution entry (R65). First what a service write comes to once its checks pass, for an object of any
type, and its reply where the queue has room; then what an entry's own bytes name; then the statement.
-/

namespace Sys2Proof.Machine

/-! ### A service write whose checks pass, and its reply (R174) -/

theorem index_of_eq_val {k j : Nat} {i : Fin k} (h : j = i.val) : index k j = some i := by
  subst h
  simp [index]

theorem Node.serviceWrite_of_ok {n m : Node} {type idx : Nat} {data : List Byte} {o : Object}
    (hobject : objectOf type idx = some o) (hlength : o.configLength ≤ data.length)
    (hwrite : n.writeObject o data = .ok m) :
    n.serviceWrite type idx 0 data = { node := m, status := .ok } := by
  simp [Node.serviceWrite, hobject, hlength.not_gt, hwrite]

/-- A WRITE that passes every check of R174 stores its object and is answered OK. -/
theorem Node.receive_write_of_ok {n m : Node} {s : Side} {h : Header} {a b : Byte} {d : List Byte}
    {o : Object} (H : n.Serves s (serviceTelegram h 1 a b 0 d))
    (hobject : objectOf a.toNat b.toNat = some o) (hlength : o.configLength ≤ d.length)
    (hwrite : (n.loadSilence s).writeObject o d = .ok m) :
    n.receive s (serviceTelegram h 1 a b 0 d) = m.sendTo s
      (serviceReply (n.loadSilence s) (hopped (serviceTelegram h 1 a b 0 d)) .ok []) := by
  have hresult := Node.serviceWrite_of_ok hobject hlength hwrite
  rw [Node.receive_write H, show (0 : Byte).toNat = 0 from rfl, hresult]
  rfl

@[simp] theorem Node.loadSilence_hasRoom (n : Node) (s : Side) (c : TelegramClass) :
    ((n.loadSilence s).side s).hasRoom c = (n.side s).hasRoom c := by
  rw [Node.loadSilence, Node.modSide_side]
  cases c <;> rfl

@[simp] theorem Node.sendTo_contribution (n : Node) (s : Side) (t : Telegram) :
    (n.sendTo s t).contribution = n.contribution := by
  obtain ⟨line, reports, hsent⟩ := n.sendTo_eq s t
  rw [hsent]

theorem Node.sendTo_reports_of_hasRoom {n : Node} {s : Side} {t : Telegram} (hup : n.isUp s = true)
    (hroom : (n.side s).hasRoom t.cls = true) : (n.sendTo s t).reports = n.reports := by
  simp [Node.sendTo, Node.offer, hup, hroom]

/-! ### Contribution entries (R64, R65, R72) -/

/-- The entry that bytes name has its configuration from them and its state part at the reset values. -/
theorem Entry.parse_eq_some_iff (d : List Byte) (e : Entry) :
    Entry.parse d = some e ↔ sourceOf (get8 d 0) = some e.source ∧ get8 d 1 ≤ 7 ∧
      e = { source := e.source, channel := get8 d 1, weight := get8 d 2, state := .empty,
            level := .normal, value := 0, age := 0 } := by
  unfold Entry.parse
  split
  next source hsource =>
    split
    next hchannel =>
      rw [hsource, Option.some.injEq, Option.some.injEq]
      constructor
      · rintro rfl
        exact ⟨rfl, hchannel, rfl⟩
      · rintro ⟨rfl, -, he⟩
        exact he.symm
    next hchannel => simp [hchannel]
  next hnone => simp [hnone]

theorem Entry.contribution_of_empty {e : Entry} (h : e.state = .empty) : e.contribution = 0 := by
  simp [Entry.contribution, h]

/-- The node with an entry of its contribution table replaced. -/
def Node.withEntry (n : Node) (i : Fin 16) (e : Entry) : Node :=
  { n with contribution := { n.contribution with entries := n.contribution.entries.set i e } }

@[simp] theorem Node.withEntry_contribution (n : Node) (i : Fin 16) (e : Entry) :
    (n.withEntry i e).contribution =
      { n.contribution with entries := n.contribution.entries.set i e } := rfl

@[simp] theorem Node.withEntry_reports (n : Node) (i : Fin 16) (e : Entry) :
    (n.withEntry i e).reports = n.reports := rfl

@[simp] theorem Node.withEntry_side (n : Node) (i : Fin 16) (e : Entry) (s : Side) :
    (n.withEntry i e).side s = n.side s := rfl

@[simp] theorem Node.withEntry_isUp (n : Node) (i : Fin 16) (e : Entry) (s : Side) :
    (n.withEntry i e).isUp s = n.isUp s := rfl

theorem Node.writeEntry_of_accepted {n : Node} {i : Fin 16} {d : List Byte} {e : Entry}
    (hparse : Entry.parse d = some e) (hunique : n.contribution.duplicate i e = false) :
    n.writeEntry i d = .ok (n.withEntry i e) := by
  simp [Node.writeEntry, hparse, hunique, Node.withEntry]

/-! ### The statement -/

/-- Settles O60: the write replaces the entry by the one its bytes name, whose state EMPTY counts nothing,
and the reply touches the line and, only where it finds no room, the reports. -/
theorem entryWritten : Obligations.EntryWritten := by
  unfold Obligations.EntryWritten
  intro n q side header idx data i e hserves hidx hlength hparse hunique
  obtain ⟨hsource, -, he⟩ := (Entry.parse_eq_some_iff data e).mp hparse
  have ⟨⟨⟨hup, _⟩, _⟩, _⟩ := hserves
  have hobject : objectOf (2 : Byte).toNat idx.toNat = some (.entry i) :=
    congrArg (Option.map Object.entry) (index_of_eq_val hidx)
  obtain ⟨reply, hcls, hreceive⟩ : ∃ reply : Telegram, reply.cls = .service ∧
      n.receive side (serviceTelegram header 1 2 idx 0 data) =
        ((n.loadSilence side).withEntry i e).sendTo side reply :=
    ⟨_, rfl, Node.receive_write_of_ok hserves hobject hlength
      (Node.writeEntry_of_accepted hparse hunique)⟩
  refine ⟨((n.loadSilence side).withEntry i e).sendTo side reply, ?_, ?_, ?_, ?_, hsource, ?_, ?_⟩
  case refine_1 => rw [exec_telegram _ _ _ _ rfl, hreceive]
  case refine_2 => simp [← he]
  case refine_3 => simp
  case refine_4 =>
    have hempty : e.state = .empty := by rw [he]
    simp [Entry.contribution_of_empty hempty]
  case refine_5 =>
    intro hroom
    rw [Node.sendTo_reports_of_hasRoom (by simpa using hup) (by simpa [hcls] using hroom)]
    simp
  case refine_6 =>
    obtain ⟨line, reports, hsent⟩ := Node.sendTo_eq side reply ((n.loadSilence side).withEntry i e)
    rw [hsent]
    rfl

end Sys2Proof.Machine
end

section
/-!
Settles O36 and O56 of the family of reports: the report that finds the queue full (R167) and the report
queue status (R171). First what a severity and a match come to, then the cases of R167, then a service
request that reads a short object or whose write is refused; each statement follows its own lemmas.
-/

namespace Sys2Proof.Machine

/-! ### Severities and matches (R166) -/

theorem ReportEntry.isInfo_of_info {e : ReportEntry} (h : e.severity = .info) : e.isInfo = true := by
  simp [ReportEntry.isInfo, h]

theorem ReportEntry.isInfo_of_alarm {e : ReportEntry} (h : e.severity = .alarm) :
    e.isInfo = false := by
  simp [ReportEntry.isInfo, h]

theorem ReportEntry.matches_eq_false_iff (e : ReportEntry) (r : Report) :
    e.matches r = false ↔ e.kind ≠ r.kind ∨ e.object ≠ r.object := by
  simp only [ReportEntry.matches, Bool.and_eq_false_iff, beq_eq_false_iff_ne]

/-! ### A report that finds the queue full (R167) -/

theorem ReportQueue.add_of_full {q : ReportQueue} (now : Nat) {r : Report}
    (hfull : q.entries.length = Config.reportCapacity)
    (hother : ∀ e ∈ q.entries, e.kind ≠ r.kind ∨ e.object ≠ r.object) :
    q.add now r = q.overflow now r := by
  have hnone : q.entries.any (·.matches r) = false := by
    simpa only [List.any_eq_false, Bool.not_eq_true, ReportEntry.matches_eq_false_iff] using hother
  simp only [ReportQueue.add, hnone, hfull, lt_irrefl, Bool.false_eq_true, if_false]

/-- The first INFO entry from the head is the oldest, and it leaves whatever the report's severity. -/
theorem ReportQueue.overflow_of_info {q : ReportQueue} (now : Nat) (r : Report)
    {a b : List ReportEntry} {x : ReportEntry} (hq : q.entries = a ++ x :: b)
    (hx : x.severity = .info) (ha : ∀ y ∈ a, y.severity = .alarm) :
    q.overflow now r = { q with entries := a ++ b ++ [r.entry now], lost := true } := by
  have hinfo : x.isInfo = true := ReportEntry.isInfo_of_info hx
  have hbefore : ∀ y ∈ a, ¬ y.isInfo = true := fun y hy => by
    simp [ReportEntry.isInfo_of_alarm (ha y hy)]
  have hany : q.entries.any ReportEntry.isInfo = true :=
    List.any_eq_true.mpr ⟨x, by simp [hq], hinfo⟩
  have hkept : q.entries.eraseP ReportEntry.isInfo = a ++ b := by
    rw [hq, List.eraseP_append_right _ hbefore, List.eraseP_cons_of_pos hinfo]
  simp only [ReportQueue.overflow, hany, hkept, if_true]

theorem ReportQueue.any_isInfo_of_alarms {q : ReportQueue}
    (halarms : ∀ y ∈ q.entries, y.severity = .alarm) :
    q.entries.any ReportEntry.isInfo = false :=
  List.any_eq_false.mpr fun y hy => by simp [ReportEntry.isInfo_of_alarm (halarms y hy)]

/-- An INFO report is discarded where only ALARM entries are held. -/
theorem ReportQueue.overflow_info_of_alarms {q : ReportQueue} (now : Nat) {r : Report}
    (halarms : ∀ y ∈ q.entries, y.severity = .alarm) (hr : r.severity = .info) :
    q.overflow now r = { q with lost := true } := by
  simp [ReportQueue.overflow, ReportQueue.any_isInfo_of_alarms halarms, hr]

/-- An ALARM report evicts the head, the oldest, where only ALARM entries are held. -/
theorem ReportQueue.overflow_alarm_of_alarms {q : ReportQueue} (now : Nat) {r : Report}
    (halarms : ∀ y ∈ q.entries, y.severity = .alarm) (hr : r.severity = .alarm) :
    q.overflow now r = { q with entries := q.entries.tail ++ [r.entry now], lost := true } := by
  simp [ReportQueue.overflow, ReportQueue.any_isInfo_of_alarms halarms, hr]

/-- Settles O36: a full queue without a match overflows, by whether it holds an INFO entry and, where it
holds none, by the report's severity. -/
theorem reportsMakeRoom : Obligations.ReportsMakeRoom := by
  unfold Obligations.ReportsMakeRoom
  intro q now r hfull hother
  rw [ReportQueue.add_of_full now hfull hother]
  refine ⟨fun a x b hq hx ha => ReportQueue.overflow_of_info now r hq hx ha, fun halarms => ?_⟩
  refine ⟨fun hinfo => ReportQueue.overflow_info_of_alarms now halarms hinfo, fun halarm x b hq => ?_⟩
  rw [ReportQueue.overflow_alarm_of_alarms now halarms halarm, hq, List.tail_cons]

/-! ### Reading a short object, and a refused write (R174) -/

/-- An object that fits one part is read whole by part 0. -/
theorem Node.serviceRead_of_short {n : Node} {type idx : Nat} {o : Object}
    (hobject : objectOf type idx = some o) (hsome : 0 < (n.objectBytes o).length)
    (hshort : (n.objectBytes o).length ≤ 43) :
    n.serviceRead type idx 0 = { node := n, status := .ok, data := n.objectBytes o } := by
  simp [Node.serviceRead, hobject, hsome, List.take_of_length_le hshort]

theorem Node.serviceWrite_of_error {n : Node} {type idx : Nat} {data : List Byte} {o : Object}
    {status : ServiceStatus} (hobject : objectOf type idx = some o)
    (hlength : o.configLength ≤ data.length) (hwrite : n.writeObject o data = .error status) :
    n.serviceWrite type idx 0 data = { node := n, status := status } := by
  simp [Node.serviceWrite, hobject, hlength.not_gt, hwrite]

/-! ### The report queue status (R171) -/

theorem objectOf_reports : objectOf 8 0 = some .reports := rfl

theorem Node.reportBytes_length (n : Node) : n.reportBytes.length = 8 := rfl

/-- Settles O56: the status is eight bytes, so part 0 reads all of it, and it has no configuration part
that a write could reach. -/
theorem reportStatusServed : Obligations.ReportStatusServed := by
  unfold Obligations.ReportStatusServed
  intro n
  have hlength : (n.objectBytes .reports).length = 8 := n.reportBytes_length
  constructor
  · exact Node.serviceRead_of_short objectOf_reports (by omega) (by omega)
  · intro data
    exact Node.serviceWrite_of_error objectOf_reports (Nat.zero_le _) rfl

end Sys2Proof.Machine
end

section
/-!
What an event makes of a side unit, said once (R42 to R52), and the operations of the line brought down to it:
a predicate on nodes that raised reports, those changes of a side unit, and a run state that stays configured
cannot break, survives every operation of chapter 3.
-/

namespace Sys2Proof.Machine

/-! ### One side unit -/

/-- What one event makes of a side unit. -/
inductive SideStep (u : SideUnit) : SideUnit → Prop where
  | join (e : Queued) (hup : u.state = .up) (hroom : u.hasRoom e.telegram.cls = true) :
      SideStep u (u.join e)
  | evict (e : Queued) (hup : u.state = .up) (hcls : e.telegram.cls = .sample) :
      SideStep u (u.evictAndJoin e)
  | drop (hup : u.state = .up) : SideStep u u.drop
  | enterUp (ticks : Nat) (hproving : u.state = .proving) :
      SideStep u { u with state := .up, provingCount := 0, silence := some ticks }
  | bad : SideStep u { u with
      errorScore := min 8 (u.errorScore + 1),
      provingCount := if u.state = .proving then 0 else u.provingCount }
  | startProving (ticks : Nat) (hdown : u.state = .down) :
      SideStep u { u with state := .proving, provingCount := 0, silence := some ticks }
  | advance (ticks : Nat) (hproving : u.state = .proving) (hcount : u.provingCount < 2) :
      SideStep u { u with provingCount := u.provingCount + 1, silence := some ticks }
  | loadSilence (ticks : Nat) (hup : u.state = .up) : SideStep u { u with silence := some ticks }
  | neighbour (id : Nat) (run : RunState) :
      SideStep u { u with neighbourId := some id, neighbourRunState := some run }
  | decay : SideStep u { u with errorScore := u.errorScore - 1 }
  | idleSent (e : Queued) (hidle : e.telegram.kind = .idle) :
      SideStep u { u with
        idle := none,
        transmitting :=
          if u.transmitting.isNone && u.nextClass.isNone then some e else u.transmitting }
  | done (hbusy : u.transmitting.isSome = true) :
      SideStep u ({ u with transmitting := none, idle := some Config.idleTicks } : SideUnit).serve
  | silent (hproving : u.state = .proving) :
      SideStep u { u with state := .down, provingCount := 0, silence := none }

theorem Node.isUp_iff (n : Node) (s : Side) : n.isUp s = true ↔ (n.side s).state = .up := by
  simp [Node.isUp]

theorem Node.modSide_modSide (n : Node) (s : Side) (f g : SideUnit → SideUnit) :
    (n.modSide s f).modSide s g = n.modSide s fun u => g (f u) := by
  cases s <;> rfl

/-! ### Predicates that the line keeps -/

theorem whenDue_kept {Q : Node → Prop} {n : Node} {due : Bool} {f : Node → Node}
    (hf : Q n → Q (f n)) (h : Q n) : Q (whenDue due f n) := by
  cases due
  · exact h
  · exact hf h

/-- A predicate that no report, no change of a side unit and no change of a configured run state breaks. -/
structure LineKept (Q : Node → Prop) : Prop where
  raise : ∀ {n : Node} (r : Report), Q n → Q (n.raise r)
  side : ∀ {n : Node} {s : Side} {f : SideUnit → SideUnit},
    SideStep (n.side s) (f (n.side s)) → Q n → Q (n.modSide s f)
  run : ∀ {n : Node} {r : RunState}, n.runState ≠ .unconfigured → r ≠ .unconfigured → Q n →
    Q { n with runState := r }

namespace LineKept

variable {Q : Node → Prop} (K : LineKept Q) {n : Node}
include K

theorem raiseAll (rs : List Report) (h : Q n) : Q (n.raiseAll rs) := by
  induction rs generalizing n with
  | nil => exact h
  | cons r rs ih => exact ih (K.raise r h)

theorem join {s : Side} {e : Queued} (hup : n.isUp s = true)
    (hroom : (n.side s).hasRoom e.telegram.cls = true) (h : Q n) : Q (n.modSide s (·.join e)) :=
  K.side (.join e ((n.isUp_iff s).1 hup) hroom) h

theorem evict {s : Side} {e : Queued} (hup : n.isUp s = true) (hcls : e.telegram.cls = .sample)
    (h : Q n) : Q (n.modSide s (·.evictAndJoin e)) :=
  K.side (.evict e ((n.isUp_iff s).1 hup) hcls) h

theorem offerPlain (s : Side) (e : Queued) (h : Q n) : Q (n.offerPlain s e) := by
  unfold Node.offerPlain
  split
  · exact K.raise _ h
  · have hup : n.isUp s = true := by simp_all
    split
    · exact K.join hup ‹_› h
    · split
      · exact K.evict hup ‹_› h
      · exact K.raise _ h

theorem notify (a : Side) (c : NoticeCause) (t : Telegram) (h : Q n) : Q (n.notify a c t) := by
  unfold Node.notify
  split
  · exact K.offerPlain _ _ h
  · exact h

/-- Every offer ends in a join, an eviction, a report or a notice (R50 to R54, R60). -/
theorem offer (s : Side) (e : Queued) (h : Q n) : Q (n.offer s e) := by
  unfold Node.offer
  split
  · split
    · exact K.notify _ _ _ h
    · exact K.raise _ h
  · have hup : n.isUp s = true := by simp_all
    split
    · exact K.join hup ‹_› h
    · split
      · exact K.evict hup ‹_› h
      · exact K.raise _ h
      · have hr := K.raise (txDropped s e.telegram.kind) h
        dsimp only
        split
        · exact K.notify _ _ _ hr
        · exact hr
      · split
        · exact K.notify _ _ _ h
        · exact K.raise _ h

theorem sendTo (s : Side) (t : Telegram) (h : Q n) : Q (n.sendTo s t) := K.offer _ _ h

theorem forward (s : Side) (t : Telegram) (h : Q n) : Q (n.forward s t) := K.offer _ _ h

theorem sendBoth (t : Telegram) (h : Q n) : Q (n.sendBoth t) := by
  have hwest : Q (if n.isUp .west then n.offer .west ⟨t, .here⟩ else n) := by
    split
    · exact K.offer _ _ h
    · exact h
  unfold Node.sendBoth
  dsimp only
  split
  · exact K.offer _ _ hwest
  · exact hwest

theorem sendZoneReply (s : Side) (tag : Byte) (body : List Byte) (h : Q n) :
    Q (n.sendZoneReply s tag body) := by
  unfold Node.sendZoneReply
  split
  · exact K.sendTo _ _ h
  · exact h

theorem notifyOne (s : Side) (e : Queued) (h : Q n) : Q (n.notifyOne s e) := by
  unfold Node.notifyOne
  split
  · split
    · exact K.notify _ _ _ h
    · exact h
  · exact h

theorem notifyFlushed (s : Side) (es : List Queued) (h : Q n) : Q (n.notifyFlushed s es) := by
  induction es generalizing n with
  | nil => exact h
  | cons e es ih => exact ih (K.notifyOne s e h)

theorem checkIsolated (h : Q n) : Q n.checkIsolated := by
  unfold Node.checkIsolated
  split
  · exact K.raise _ (K.run (by simp_all) (by simp) h)
  · exact h

theorem leaveUp {s : Side} (c : DownCause) (hup : (n.side s).state = .up) (h : Q n) :
    Q (n.leaveUp s c) :=
  K.checkIsolated (K.raise _ (K.notifyFlushed _ _ (K.side (.drop hup) h)))

/-- What entering UP does once the side unit is UP (R47, R177). -/
theorem enterUp {s : Side} (h : Q (n.modSide s fun u =>
    { u with state := .up, provingCount := 0, silence := some n.params.silenceLimit })) :
    Q (n.enterUp s) := by
  unfold Node.enterUp
  dsimp only
  split
  · exact K.raise _ (K.run (by simp_all) (by simp) (K.raise _ h))
  · exact K.raise _ h

theorem receiveBad (s : Side) (h : Q n) : Q (n.receiveBad s) := by
  have hbad := K.side (s := s) (f := fun u =>
    { u with errorScore := min 8 (u.errorScore + 1),
             provingCount := if u.state = .proving then 0 else u.provingCount }) .bad h
  unfold Node.receiveBad
  dsimp only
  split
  next hfull => exact K.leaveUp _ hfull.1 hbad
  next => exact hbad

theorem prove (s : Side) (h : Q n) : Q (n.prove s) := by
  unfold Node.prove
  split
  next hdown => exact K.side (.startProving _ hdown) h
  next hproving =>
    dsimp only
    split
    · refine K.enterUp ?_
      rw [Node.modSide_modSide]
      exact K.side (.enterUp _ hproving) h
    next hcount =>
      rw [Node.modSide_side] at hcount
      exact K.side (.advance _ hproving (by dsimp only at hcount; omega)) h
  next => exact h

theorem loadSilence {s : Side} (hup : n.isUp s = true) (h : Q n) : Q (n.loadSilence s) :=
  K.side (.loadSilence _ ((n.isUp_iff s).1 hup)) h

theorem recordNeighbour (s : Side) (body : List Byte) (h : Q n) : Q (n.recordNeighbour s body) := by
  unfold Node.recordNeighbour
  split
  · split
    · exact h
    next id run _ r _ =>
      have hn := K.side (s := s) (f := fun u =>
        { u with neighbourId := some id.toNat, neighbourRunState := some r }) (.neighbour _ _) h
      have both : ∀ (b : Bool) (rep : Report), Q (if b = true then Node.raise rep (n.modSide s fun u =>
          { u with neighbourId := some id.toNat, neighbourRunState := some r }) else
          n.modSide s fun u =>
          { u with neighbourId := some id.toNat, neighbourRunState := some r }) := by
        intro b rep
        cases b
        · exact hn
        · exact K.raise _ hn
      exact both _ _
  · exact h

theorem expireSilence (s : Side) (h : Q n) : Q (n.expireSilence s) := by
  unfold Node.expireSilence Node.silenceExpired
  split
  · split
    next => exact h
    next hproving => exact K.side (.silent hproving) h
    next hup => exact K.leaveUp _ hup h
  · exact h

theorem decayScore (s : Side) (h : Q n) : Q (n.decayScore s) := K.side .decay h

theorem expireIdle (s : Side) (h : Q n) : Q (n.expireIdle s) := by
  unfold Node.expireIdle
  split
  · exact K.side (.idleSent _ rfl) h
  · exact h

theorem transmissionDone (s : Side) (h : Q n) : Q (n.transmissionDone s) := by
  unfold Node.transmissionDone
  split
  next hbusy => exact K.side (.done hbusy) h
  next => exact h

theorem sideTick (s : Side) (h : Q n) : Q (n.sideTick s) :=
  whenDue_kept (K.expireIdle s) (whenDue_kept (K.expireSilence s) h)

end LineKept

end Sys2Proof.Machine
end

section
/-!
What a step can do to the node, said once. `Kept P D` lists the elementary changes that the commands and the
tick are made of, with what is known where each of them happens; `P` is to hold between events and `D` while
a change of a group's target sources waits to be presented (R98, R140). From it every command and the tick
keep `P`. An invariant is then a list of small goals, one for each elementary change.
-/

namespace Sys2Proof.Machine

/-! ### Elementary changes -/

/-- What an event runs on the group machines, but for the presentation and the release (chapters 5 and 6). -/
inductive FanOp (n : Node) : (FanEnv → FanRun → FanRun) → Prop where
  | examine : FanOp n FanRun.examine
  | recheckAll (c : Fin 8) : FanOp n fun env r => r.recheckAll env c
  | runFeedback (g : Fin 4) (v : Bool) : FanOp n fun env r => r.runFeedback env g v
  | overload (g : Fin 4) (v : Bool) : FanOp n fun env r => r.overload env g v
  | localSwitch (g : Fin 4) (v : Bool) : FanOp n fun env r => r.localSwitch env g v
  | legRestored (l : Leg) : FanOp n fun env r => r.legRestored env l
  | legLost (l : Leg) : FanOp n fun env r => r.legLost env l
  | legFirst (l : Leg) (v : Bool) : FanOp n fun env r => r.legFirst env l v
  | startExpired (g : Fin 4) : FanOp n fun env r => r.startExpired env g
  | stageUpExpired (g : Fin 4) (hrunning : n.fans.groups[g].stageUp.isSome = true) :
      FanOp n fun env r => r.stageUpExpired env g
  | coastExpired (g : Fin 4) : FanOp n fun env r => r.coastExpired env g
  | restExpired (g : Fin 4) : FanOp n fun env r => r.restExpired env g
  | runMinExpired (g : Fin 4) : FanOp n fun env r => r.runMinExpired env g
  | windmillExpired (g : Fin 4) : FanOp n fun env r => r.windmillExpired env g
  | tripReset (g : Fin 4) (htripped : n.fans.groups[g].state = .tripped) :
      FanOp n fun env r => r.tripReset env g

/-- What an event runs on a door (chapter 7). -/
inductive DoorOp (d : Door) : (DoorEnv → DoorRun → DoorRun) → Prop where
  | refresh : DoorOp d DoorRun.refresh
  | setOrder (on : Bool) : DoorOp d fun env r => r.setOrder env on
  | closedEdge (v : Bool) : DoorOp d fun env r => r.closedEdge env v
  | latchedEdge : DoorOp d fun env r => r.latchedEdge env
  | pushEdge (v : Bool) : DoorOp d fun env r => r.pushEdge env v
  | closedFirst (v : Bool) : DoorOp d fun env r => r.closedFirst env v
  | latchedFirst : DoorOp d fun env r => r.latchedFirst env
  | jamExpired : DoorOp d fun env r => r.jamExpired env
  | relatchExpired (hrunning : d.relatch.isSome = true) : DoorOp d fun env r => r.relatchExpired env
  | leftOpenExpired : DoorOp d fun env r => r.leftOpenExpired env
  | assistTailExpired : DoorOp d fun _ r => r.assistTailExpired
  | faultExpired : DoorOp d fun env r => r.faultExpired env

/-- The groups and the supply as a step of theirs leaves them, its reports not yet raised. -/
def Node.ranFans (n : Node) (f : FanEnv → FanRun → FanRun) : Node :=
  { n with fans := (n.fanRun f).fans }

/-- A door as a step of its supervisor leaves it, its reports not yet raised. -/
def Node.ranDoor (n : Node) (d : Fin 2) (f : DoorEnv → DoorRun → DoorRun) : Node :=
  { n with doors := n.doors.set d (f (n.doorEnv d) { door := n.doors[d], raised := [] }).door }

/-- The node with the configuration of a group replaced. -/
def Node.withConfig (n : Node) (g : Fin 4) (c : GroupConfig) : Node :=
  { n with setups := upd n.setups g fun s => { s with config := c } }

/-- The node with the order target of a group replaced. -/
def Node.withOrderTarget (n : Node) (g : Fin 4) (o : Option (Nat × Direction)) : Node :=
  { n with setups := upd n.setups g fun s => { s with orderTarget := o } }

/-- The node with the configuration of a door replaced. -/
def Node.withDoorConfig (n : Node) (d : Fin 2) (c : DoorConfig) : Node :=
  { n with doors := upd n.doors d fun x => { x with config := c } }

/-- The node with the demand stages that follow from a demand. -/
def Node.withDemand (n : Node) (t : Contribution) (demand : Nat) : Node :=
  { n with
    contribution := t,
    setups := n.setups.map fun (s : GroupSetup) =>
      { s with demandStage := s.config.nextStage s.demandStage demand } }

/-- The node with the aggregation record of a zone entry replaced. -/
def Node.withRecord (n : Node) (z : Fin 32) (x : Option Record) : Node :=
  n.modZone z fun e => { e with record := x }

/-- The node with a zone entry and its reserve freed, the change not yet presented (R136). -/
def Node.freed (n : Node) (z : Fin 32) : Node :=
  { n with zones := upd n.zones z Zone.freed, fans := n.fans.release z }

/-- The node as the warm restart leaves it before the doors are refreshed (R180). -/
def Node.cleared (n : Node) : Node :=
  { n with
    runState := .unconfigured
    params := { permitWest := n.params.permitWest, permitEast := n.params.permitEast }
    sensors := (Node.reset n.strap).sensors
    contribution := (Node.reset n.strap).contribution
    setups := n.setups.map fun (s : GroupSetup) => { s with demandStage := 0 }
    fans := zoneIndices.foldl Fans.release n.fans
    nicheAlert := false
    zones := (Node.reset n.strap).zones
    reports := {} }

/-- The account that a bind which has passed its checks leaves: charged with the reserve of a FREE entry,
unchanged for a BOUND one (R153 to R156). -/
def Node.BindAccount (n : Node) (z : Fin 32) (F : Fans) : Prop :=
  (n.zones[z].state = .free ∧ n.fans.reserve z (n.reserveSum z) = some F) ∨
    (n.zones[z].state = .bound ∧ F = n.fans)

/-- The elementary changes, and that they keep `P` or `D`. -/
structure Kept (P D : Node → Prop) : Prop where
  clean : LineKept P
  dirty : LineKept D
  weaken : ∀ {n : Node}, P n → D n
  quiet : ∀ {n : Node} {p : Params} {t : Timebase} {s : Sensors} {c : Contribution}
    {i : Vector Input 24} {a : Bool}, P n →
    P { n with params := p, time := t, sensors := s, contribution := c, inputs := i, nicheAlert := a }
  drained : ∀ {n : Node}, P n → P { n with reports := n.reports.drained }
  fans : ∀ {n : Node} {f : FanEnv → FanRun → FanRun}, FanOp n f → P n → P (n.ranFans f)
  examine : ∀ {n : Node}, D n → D (n.ranFans FanRun.examine)
  present : ∀ {n : Node}, D n → P (n.ranFans FanRun.present)
  start : ∀ {n : Node}, n.runState = .unconfigured → P n →
    P (Node.ranFans { n with runState := .operational } FanRun.release)
  door : ∀ {n : Node} {d : Fin 2} {f : DoorEnv → DoorRun → DoorRun}, DoorOp n.doors[d] f → D n →
    D (n.ranDoor d f)
  doorConfig : ∀ {n : Node} (d : Fin 2) (c : DoorConfig), P n → D (n.withDoorConfig d c)
  demand : ∀ {n : Node} (t : Contribution) (demand : Nat), P n → D (n.withDemand t demand)
  orderTarget : ∀ {n : Node} (g : Fin 4) {o : Option (Nat × Direction)}, (∀ t ∈ o, t.1 ≤ 2) → P n →
    D (n.withOrderTarget g o)
  config : ∀ {n : Node} {g : Fin 4} {c : GroupConfig}, c.sound = true → n.groupInUse g = false → P n →
    D (n.withConfig g c)
  capacity : ∀ {n : Node} {l : Leg} {c : Nat}, (n.fans.leg l).drawn + (n.fans.leg l).reserved ≤ c →
    P n → P { n with fans := n.fans.modLeg l fun r => { r with capacity := c } }
  applyOrder : ∀ {n : Node} {z : Fin 32} {o : OrderBody} (now : Nat), n.zones[z].state = .bound →
    o.stage ≤ 2 → P n → D (n.modZone z (Zone.applyOrder now o))
  record : ∀ {n : Node} {z : Fin 32} {x : Option Record},
    (∀ r ∈ x, n.zones[z].active = true ∧ r.ackWait.isSome = true) → P n → P (n.withRecord z x)
  relay : ∀ {n : Node} {z : Fin 32} {r r' : Record}, n.zones[z].record = some r →
    r'.ackWait = r.ackWait → P n → P (n.withRecord z (some r'))
  free : ∀ {n : Node} (z : Fin 32), P n → D (n.freed z)
  bindTarget : ∀ {n : Node} {z : Fin 32} {F : Fans} (s : Side) (tag : Byte) (here : Bool),
    n.BindAccount z F → P n →
    D (Node.modZone { n with fans := F } z fun e => e.boundAtTarget s tag here)
  bindEnter : ∀ {n : Node} {z : Fin 32} {F : Fans} (s : Side) (tag : Byte) (here : Bool) (wait : Nat),
    n.BindAccount z F → P n →
    P (Node.modZone { n with fans := F } z fun e => e.enterBinding s tag here wait)
  restored : ∀ {n : Node} {z : Fin 32},
    n.zones[z].state = .binding ∨ n.zones[z].bindWait.isSome = true → n.zones[z].boundBefore = true →
    P n → P (n.modZone z Zone.restored)
  confirmed : ∀ {n : Node} {z : Fin 32}, n.zones[z].state = .binding → P n →
    D (n.modZone z Zone.confirmed)
  reconfirmed : ∀ {n : Node} {z : Fin 32}, n.zones[z].state = .binding →
    n.zones[z].boundBefore = true → P n → P (n.modZone z Zone.confirmed)
  lapseNote : ∀ {n : Node} (z : Fin 32) (x : Option (Byte × Side)), P n →
    P (n.modZone z fun e => { e with lapseNote := x })
  noForward : ∀ {n : Node} {z : Fin 32}, n.zones[z].state = .bound → P n →
    P (n.modZone z fun e => { e with forward := false })
  count : ∀ {n : Node}, P n → P n.countTick
  restart : ∀ {n : Node}, P n → D n.cleared
  powerOn : ∀ (n : Node) (straps : BitVec 7), P (n.restarted straps)

/-! ### A record beside the line

The line does not read the zone entries, so a record may be written before or after a telegram is
offered. -/

theorem Node.raise_modZone (n : Node) (z : Fin 32) (f : Zone → Zone) (r : Report) :
    (n.modZone z f).raise r = (n.raise r).modZone z f := by
  unfold Node.raise
  by_cases h : (validStrap n.strap || r.kind == .idInvalid) = true
  · rw [Node.modZone_strap, if_pos h, if_pos h]
    rfl
  · rw [Node.modZone_strap, if_neg h, if_neg h]

theorem Node.offerPlain_modZone (n : Node) (z : Fin 32) (f : Zone → Zone) (s : Side) (e : Queued) :
    (n.modZone z f).offerPlain s e = (n.offerPlain s e).modZone z f := by
  have hup : (n.modZone z f).isUp s = n.isUp s := rfl
  have hside : (n.modZone z f).side s = n.side s := rfl
  simp only [Node.offerPlain, hup, hside, Node.raise_modZone]
  split
  · rfl
  · split
    · rfl
    · split <;> rfl

theorem Node.notify_modZone (n : Node) (z : Fin 32) (f : Zone → Zone) (a : Side) (c : NoticeCause)
    (t : Telegram) : (n.modZone z f).notify a c t = (n.notify a c t).modZone z f := by
  have hid : (n.modZone z f).validId = n.validId := rfl
  have ht : pathNotice (n.modZone z f) c t = pathNotice n c t := rfl
  simp only [Node.notify, hid, ht, Node.offerPlain_modZone]
  split <;> rfl

theorem Node.offer_modZone (n : Node) (z : Fin 32) (f : Zone → Zone) (s : Side) (e : Queued) :
    (n.modZone z f).offer s e = (n.offer s e).modZone z f := by
  have hup : (n.modZone z f).isUp s = n.isUp s := rfl
  have hside : (n.modZone z f).side s = n.side s := rfl
  simp only [Node.offer, hup, hside, Node.raise_modZone, Node.notify_modZone]
  split
  · split <;> rfl
  · split
    · rfl
    · split
      · rfl
      · rfl
      · split <;> rfl
      · split <;> rfl

theorem Node.sendZoneReply_modZone (n : Node) (z : Fin 32) (f : Zone → Zone) (s : Side) (tag : Byte)
    (body : List Byte) :
    (n.modZone z f).sendZoneReply s tag body = (n.sendZoneReply s tag body).modZone z f := by
  have hid : (n.modZone z f).validId = n.validId := rfl
  have ht : zoneReplyTelegram (n.modZone z f) tag body = zoneReplyTelegram n tag body := rfl
  simp only [Node.sendZoneReply, hid, ht, Node.sendTo, Node.offer_modZone]
  split <;> rfl

theorem Node.sendNack_modZone (n : Node) (z y : Fin 32) (f : Zone → Zone) (s : Side) (r : Record) :
    (n.modZone z f).sendNack s y r = (n.sendNack s y r).modZone z f := by
  unfold Node.sendNack
  split
  · rfl
  · exact Node.sendZoneReply_modZone _ _ _ _ _ _

theorem Node.passOrder_withRecord (n : Node) (z : Fin 32) (x : Option Record) (s : Side) (t : Telegram)
    (body : List Byte) :
    (n.withRecord z x).passOrder s z t body = (n.passOrder s z t body).withRecord z x := by
  have hforward : (n.withRecord z x).zones[z].forward = n.zones[z].forward := by
    rw [Node.withRecord, Node.modZone_self]
  unfold Node.passOrder
  rw [hforward]
  split
  · exact Node.offer_modZone _ _ _ _ _
  · rfl

theorem Node.modZone_modZone (n : Node) (z : Fin 32) (f g : Zone → Zone) :
    (n.modZone z f).modZone z g = n.modZone z fun e => g (f e) := by
  simp [Node.modZone, upd]

/-- A record that has just been written closes without having stood. -/
theorem Node.closeRecord_withRecord (n : Node) (z : Fin 32) (r : Record) (c : Option ZoneOutcome) :
    (n.withRecord z (some r)).closeRecord z c = (n.withRecord z none).sendZoneReply r.side r.tag
      (zoneReplyBody n z true r.untracked (r.finalOutcome c) r.applied r.failed) := by
  have hrecord : (n.withRecord z (some r)).zones[z].record = some r := by
    rw [Node.withRecord, Node.modZone_self]
  unfold Node.closeRecord
  rw [hrecord]
  simp only [Node.withRecord, Node.modZone_modZone]
  rfl

end Sys2Proof.Machine
end

section
/-!
Every command and the tick are made of the elementary changes of `Kept`: one lemma for each operation of the
node, in the order of the model's files, and at the end the step.
-/

namespace Sys2Proof.Machine

/-! ### What accepted bodies carry (R139, R172) -/

theorem orderBody_stage {body : List Byte} {o : OrderBody} (h : orderBody body = some o) :
    o.stage ≤ 2 := by
  unfold orderBody at h
  split at h
  · split at h
    · split at h
      next hfits =>
        cases h
        exact hfits.1
      next => cases h
    · cases h
  · cases h

theorem orderOf_fanSet {body : List Byte} {g : Fin 4} {stage : Nat} {d : Direction}
    (h : orderOf body = .ok (.fanSet g stage d)) : stage ≤ 2 := by
  unfold orderOf at h
  split at h
  · split at h <;> (repeat' split at h) <;> simp_all
  · cases h

/-- The checks of R172 that an accepted order has passed. -/
theorem Node.orderChecks_ok {n : Node} {t : Telegram} {o : Order} (h : n.orderChecks t = .ok o) :
    orderOf t.body = .ok o ∧ n.orderAvailable o = true := by
  unfold Node.orderChecks at h
  split at h
  · cases h
  · split at h
    · cases h
    · split at h
      · cases h
      next o' ho =>
        split at h
        next hav =>
          cases h
          exact ⟨ho, hav⟩
        next => cases h

/-- The entry and the account of a bind that has passed the checks (R153). -/
theorem Node.bindChecks_ok {n : Node} {s : Side} {forThis : Bool} {b : BindBody} {z : Fin 32} {F : Fans}
    (h : n.bindChecks s forThis b = .ok (z, F)) : n.BindAccount z F := by
  unfold Node.bindChecks at h
  split at h
  · cases h
  · split at h
    · cases h
    next z' _ =>
      dsimp only at h
      split at h
      · cases h
      next hfits =>
        split at h
        next hfree =>
          split at h
          · cases h
          next hF =>
            cases h
            exact .inl ⟨hfree, hF⟩
        next hfree =>
          cases h
          refine .inr ⟨?_, rfl⟩
          match hstate : n.zones[z].state with
          | .free => exact absurd hstate hfree
          | .binding => exact absurd (by rw [Node.sideFits, hstate]; rfl) hfits
          | .bound => rfl

theorem GroupConfig.parse_sound {d : List Byte} {c : GroupConfig} (h : GroupConfig.parse d = some c) :
    c.sound = true := by
  unfold GroupConfig.parse at h
  split at h
  · dsimp only at h
    split at h
    next hsound =>
      cases h
      exact hsound
    next => cases h
  · cases h

theorem foldl_kept {ι : Type} {Q : Node → Prop} {n : Node} (l : List ι) {f : Node → ι → Node}
    (hf : ∀ {m : Node} (i : ι), Q m → Q (f m i)) (h : Q n) : Q (l.foldl f n) := by
  induction l generalizing n with
  | nil => exact h
  | cons i l ih => exact ih (hf i h)

namespace Kept

variable {P D : Node → Prop} (K : Kept P D) {n : Node}
include K

/-! ### Groups and doors -/

theorem withFans {f : FanEnv → FanRun → FanRun} (hf : FanOp n f) (h : P n) : P (n.withFans f) :=
  K.clean.raiseAll _ (K.fans hf h)

theorem examineQueue (h : P n) : P n.examineQueue := K.withFans .examine h

theorem examineDirty (h : D n) : D n.examineQueue := K.dirty.raiseAll _ (K.examine h)

theorem presentGroups (h : D n) : P n.presentGroups := K.clean.raiseAll _ (K.present h)

theorem withDoor {d : Fin 2} {f : DoorEnv → DoorRun → DoorRun} (hf : DoorOp n.doors[d] f) (h : D n) :
    P (n.withDoor d f) :=
  K.presentGroups (K.dirty.raiseAll _ (K.door hf h))

theorem refreshDoors (h : D n) : P n.refreshDoors :=
  K.withDoor .refresh (K.weaken (K.withDoor .refresh h))

theorem presentZone (h : D n) : P n.presentZone := K.refreshDoors (K.weaken (K.presentGroups h))

/-! ### Zones (chapter 8) -/

theorem closeRecord (z : Fin 32) (c : Option ZoneOutcome) (h : P n) : P (n.closeRecord z c) := by
  unfold Node.closeRecord
  split
  · exact h
  · exact K.clean.sendZoneReply _ _ _ (K.record (x := none) (by simp) h)

theorem freeEntry (z : Fin 32) (h : P n) : P (n.freeEntry z) :=
  K.examineQueue (K.presentZone (K.free z h))

theorem passOrder (s : Side) (z : Fin 32) (t : Telegram) (body : List Byte) (h : P n) :
    P (n.passOrder s z t body) := by
  unfold Node.passOrder
  split
  · exact K.clean.forward _ _ h
  · exact h

theorem sendNack (s : Side) (z : Fin 32) (r : Record) (h : P n) : P (n.sendNack s z r) := by
  unfold Node.sendNack
  split
  · exact h
  · exact K.clean.sendZoneReply _ _ _ h

/-- The record of an answered order stands where it waits; otherwise it closes in the same step, and the
node is as if it had never been written. -/
theorem answeredOrder (s : Side) (z : Fin 32) (t : Telegram) (o : OrderBody) (out : Option ZoneOutcome)
    (hactive : n.zones[z].active = true) (h : P n) : P (n.answeredOrder s z t o out) := by
  unfold Node.answeredOrder
  dsimp only
  split
  next hwaits =>
    exact K.passOrder _ _ _ _ (K.sendNack _ _ _
      (K.record (fun r hr => by cases hr; exact ⟨hactive, hwaits⟩) h))
  next =>
    change P ((((n.withRecord z (some _)).sendNack _ _ _).passOrder _ _ _ _).closeRecord z none)
    rw [Node.withRecord, Node.sendNack_modZone]
    change P ((((n.sendNack _ _ _).withRecord z (some _)).passOrder _ _ _ _).closeRecord z none)
    rw [Node.passOrder_withRecord, Node.closeRecord_withRecord]
    exact K.clean.sendZoneReply _ _ _ (K.record (x := none) (by simp)
      (K.passOrder _ _ _ _ (K.sendNack _ _ _ h)))

theorem acceptOrder (s : Side) (z : Fin 32) (t : Telegram) (o : OrderBody)
    (hbound : n.zones[z].state = .bound) (hstage : o.stage ≤ 2) (h : P n) :
    P (n.acceptOrder s z t o) := by
  have hordered := K.presentZone (K.applyOrder (z := z) n.time.uptime hbound hstage h)
  have hclosed := K.closeRecord z (some .superseded) hordered
  unfold Node.acceptOrder
  dsimp only
  split
  · refine K.answeredOrder _ _ _ _ _ ?_ hclosed
    obtain ⟨l, q, hclose⟩ := Node.closeRecord_eq z (some .superseded)
      (n.modZone z (Zone.applyOrder n.time.uptime o)).presentZone
    obtain ⟨E, F, q', hpresent⟩ := (n.modZone z (Zone.applyOrder n.time.uptime o)).presentZone_eq
    rw [hclose, hpresent]
    simp [Node.modZone, Zone.active, Zone.applyOrder, upd]
    exact .inl hbound
  · exact K.passOrder _ _ _ _ hclosed

theorem zoneOrder (s : Side) (t : Telegram) (h : P n) : P (n.zoneOrder s t) := by
  unfold Node.zoneOrder Node.refuseOrder
  split
  next o z ho _ =>
    dsimp only
    split
    · split
      · exact K.clean.sendZoneReply _ _ _ h
      · exact h
    next hbound =>
      split
      · split
        · exact K.clean.sendZoneReply _ _ _ h
        · exact h
      · exact K.acceptOrder _ _ _ _ (not_not.1 hbound) (orderBody_stage ho) h
  · exact h

theorem dropReply (z : Fin 32) (t : Telegram) (r : ReplyBody) (h : P n) : P (n.dropReply z t r) := by
  unfold Node.dropReply
  split
  · exact K.clean.raise _ h
  · exact h

/-- A relayed reply leaves the record waiting, a final one removes it. -/
theorem takeReply (s : Side) (z : Fin 32) (t : Telegram) (b : ReplyBody) (r : Record)
    (hrecord : n.zones[z].record = some r) (h : P n) :
    P (n.takeReply s z t b r) := by
  unfold Node.takeReply
  split
  · exact K.dropReply _ _ _ h
  · dsimp only
    split
    · change P ((n.withRecord z (some _)).closeRecord z none)
      rw [Node.closeRecord_withRecord]
      exact K.clean.sendZoneReply _ _ _ (K.record (x := none) (by simp) h)
    next hfinal =>
      exact K.clean.forward _ _ (K.relay hrecord (by simp [Record.take, hfinal]) h)

theorem zoneReply (s : Side) (t : Telegram) (h : P n) :
    P (n.zoneReply s t) := by
  unfold Node.zoneReply
  split
  · exact K.clean.forward _ _ h
  · split
    · exact K.clean.forward _ _ h
    · dsimp only
      split
      next hr =>
        split
        · exact K.takeReply _ _ _ _ _ hr h
        · exact K.clean.forward _ _ h
      · split
        · exact K.dropReply _ _ _ h
        · exact K.clean.forward _ _ h

/-! ### Binding (chapter 9) -/

theorem bindPassed (s : Side) (forThis : Bool) (t : Telegram) {z : Fin 32} {F : Fans}
    (hF : n.BindAccount z F) (h : P n) : P (n.bindPassed s forThis t z F) := by
  unfold Node.bindPassed
  dsimp only
  split
  · refine K.presentZone (K.dirty.sendTo _ _ ?_)
    unfold Node.reportTakeover
    split
    · exact K.dirty.raise _ (K.bindTarget _ _ _ hF h)
    · exact K.bindTarget _ _ _ hF h
  · exact K.bindEnter _ _ _ _ hF h

theorem bind (s : Side) (t : Telegram) (h : P n) : P (n.bind s t).1 := by
  unfold Node.bind
  split
  · exact h
  · split
    · exact h
    · dsimp only
      split
      · split
        · exact K.clean.sendTo _ _ h
        next hok => exact K.bindPassed _ _ _ (Node.bindChecks_ok hok) h
      · exact h

theorem undoBind (z : Fin 32) (hbinding : n.zones[z].state = .binding ∨ n.zones[z].bindWait.isSome = true)
    (h : P n) : P (n.undoBind z) := by
  unfold Node.undoBind
  split
  next hbefore => exact K.restored hbinding hbefore h
  next => exact K.freeEntry z h

theorem bindReply (s : Side) (t : Telegram) (h : P n) : P (n.bindReply s t).1 := by
  unfold Node.bindReply
  split
  · exact h
  · split
    · split
      · exact h
      next z _ =>
        split
        · exact h
        · dsimp only
          split
          next hmatches =>
            have hbinding : n.zones[z].state = .binding := by
              simp only [Zone.matchesReply, Bool.and_eq_true, beq_iff_eq] at hmatches
              exact hmatches.1.1
            split
            · unfold Node.confirmBind
              dsimp only
              split
              next hbefore => exact K.reconfirmed hbinding hbefore h
              next => exact K.presentZone (K.confirmed hbinding h)
            · exact K.undoBind _ (.inl hbinding) h
          · split
            · exact K.lapseNote _ _ h
            · exact h
    · exact h

theorem tearEntry (z : Fin 32) (h : P n) : P (n.tearEntry z) := K.freeEntry z (K.closeRecord z _ h)

theorem unbind (s : Side) (t : Telegram) (h : P n) : P (n.unbind s t).1 := by
  unfold Node.unbind
  split
  · exact h
  · split
    · exact h
    · split
      · exact h
      next z _ =>
        dsimp only
        split
        next hbound =>
          split
          · exact K.noForward hbound.1 h
          · split
            · dsimp only
              exact K.tearEntry z h
            · exact h
        next => exact h

theorem teardown (s : Side) (t : Telegram) (h : P n) : P (n.teardown s t) := by
  unfold Node.teardown
  split
  · dsimp only
    split
    · refine K.tearEntry _ ?_
      split
      · exact K.clean.forward _ _ h
      · exact h
    · exact h
  · exact h

/-! ### Sensors and contribution table (chapters 1, 2 and 4) -/

theorem checkFire (h : P n) : P n.checkFire := by
  unfold Node.checkFire
  dsimp only
  split
  · exact K.refreshDoors (K.weaken (K.quiet (K.clean.raise _ h)))
  · exact h

theorem publish (h : P n) : P n.publish := by
  unfold Node.publish
  split
  · exact K.clean.sendBoth _ (K.quiet h)
  · exact h

theorem publicationStep (h : P n) : P n.publicationStep := by
  unfold Node.publicationStep
  dsimp only
  split
  · exact K.publish (K.quiet h)
  · exact K.quiet h

theorem computeDemand (h : P n) : P n.computeDemand := K.presentGroups (K.demand _ _ h)

theorem channelTurn (currents : Vector Nat 8) (i : Fin 8) (h : P n) : P (n.channelTurn currents i) := by
  unfold Node.channelTurn
  dsimp only
  split
  · exact h
  · refine K.withFans (.recheckAll i) ?_
    unfold Node.localReading
    dsimp only
    split
    · exact K.clean.raiseAll _ (K.quiet h)
    · exact K.quiet (K.clean.raiseAll _ (K.quiet h))

theorem acquire (currents : Vector Nat 8) (h : P n) : P (n.acquire currents) := by
  have hturns : P (channelIndices.foldl (fun n i => n.channelTurn currents i)
      { n with time := { n.time with samplePeriod := 10 * n.params.samplePeriod } }) :=
    foldl_kept _ (K.channelTurn currents) (K.quiet h)
  exact K.quiet (K.computeDemand (K.publicationStep (K.checkFire hturns)))

theorem ageingStep (h : P n) : P n.ageingStep := K.clean.raiseAll _ (K.quiet h)

theorem drain (h : P n) : P n.drain := by
  unfold Node.drain
  split
  · exact K.clean.sendBoth _ (K.drained h)
  · exact h

/-! ### Inputs (chapter 7) -/

theorem nicheEdge (i : Fin 24) (v : Bool) (h : P n) : P (n.nicheEdge i v) := by
  unfold Node.nicheEdge
  dsimp only
  split
  · split
    · exact K.refreshDoors (K.weaken (K.quiet (K.clean.raise _ h)))
    · exact K.clean.raise _ h
  · exact h

theorem deliverEdge (i : Fin 24) (v : Bool) (h : P n) : P (n.deliverEdge i v) := by
  unfold Node.deliverEdge
  split
  · exact K.withFans (.runFeedback _ v) h
  · exact K.withFans (.overload _ v) h
  · exact K.withFans (.localSwitch _ v) h
  · exact K.withDoor (.closedEdge v) (K.weaken h)
  · exact K.withDoor .latchedEdge (K.weaken h)
  · exact K.withDoor (.pushEdge v) (K.weaken h)
  next l _ =>
    cases v
    · exact K.withFans (.legLost l) h
    · exact K.withFans (.legRestored l) h
  · exact K.nicheEdge _ _ h

theorem deliverFirst (i : Fin 24) (v : Bool) (h : P n) : P (n.deliverFirst i v) := by
  unfold Node.deliverFirst
  split
  · exact h
  · exact h
  · exact K.withFans (.localSwitch _ v) h
  · exact K.withDoor (.closedFirst v) (K.weaken h)
  · exact K.withDoor .latchedFirst (K.weaken h)
  · exact h
  · exact K.withFans (.legFirst _ v) h
  · exact h

theorem levelChange (i : Fin 24) (v : Bool) (h : P n) : P (n.levelChange i v) := by
  unfold Node.levelChange
  split
  · exact K.deliverEdge _ _ (K.quiet h)
  · exact h

theorem firstReading (i : Fin 24) (v : Bool) (h : P n) : P (n.firstReading i v) := by
  unfold Node.firstReading
  split
  · exact K.deliverFirst _ _ (K.quiet h)
  · exact h

theorem sampleInput (pins : BitVec 24) (i : Fin 24) (h : P n) : P (n.sampleInput pins i) := by
  unfold Node.sampleInput
  dsimp only
  split
  · split
    · exact K.levelChange _ _ (K.quiet h)
    · exact K.firstReading _ _ (K.quiet h)
  · exact K.quiet h

theorem strobe (pins : BitVec 24) (h : P n) : P (n.strobe pins) :=
  foldl_kept _ (K.sampleInput pins) h

/-! ### Orders and service (chapter 11) -/

theorem obey (o : Order) (ho : ∀ g stage d, o = .fanSet g stage d → stage ≤ 2)
    (hav : n.orderAvailable o = true) (h : P n) : P (n.obey o) := by
  cases o with
  | fanSet g stage d =>
    refine K.presentGroups (K.orderTarget g ?_ h)
    rintro _ ⟨⟩
    exact ho _ _ _ rfl
  | fanRelease g => exact K.presentGroups (K.orderTarget g (by simp) h)
  | tripReset g => exact K.withFans (.tripReset g (by simpa [Node.orderAvailable] using hav)) h
  | doorRelease d on => exact K.withDoor (.setOrder on) (K.weaken h)
  | alertClear => exact K.refreshDoors (K.weaken (K.quiet h))
  | publishNow => exact K.publish h

theorem order (s : Side) (t : Telegram) (h : P n) : P (n.order s t) := by
  unfold Node.order
  split
  · exact K.clean.sendTo _ _ h
  next o hok =>
    obtain ⟨horder, hav⟩ := Node.orderChecks_ok hok
    refine K.clean.sendTo _ _ (K.obey o ?_ hav h)
    rintro g stage d rfl
    exact orderOf_fanSet horder

theorem storeGroup {g : Fin 4} {c : GroupConfig} (hsound : c.sound = true)
    (hidle : n.groupInUse g = false) (h : P n) : P (n.storeGroup g c) := by
  have hstored := K.config hsound hidle h
  unfold Node.storeGroup
  dsimp only
  refine K.presentGroups ?_
  split
  · exact hstored
  · exact K.examineDirty hstored

theorem writeObject {o : Object} {d : List Byte} {m : Node} (hok : n.writeObject o d = .ok m) (h : P n) :
    P m := by
  cases o with
  | params =>
    change n.writeParams d = .ok m at hok
    unfold Node.writeParams at hok
    split at hok
    · cases hok
    · rw [← Except.ok.inj hok]
      exact K.quiet h
  | channel i =>
    change n.writeChannel i d = .ok m at hok
    unfold Node.writeChannel at hok
    split at hok
    · cases hok
    · split at hok
      · rw [← Except.ok.inj hok]
        exact K.withFans (.recheckAll i) (K.quiet h)
      · cases hok
  | entry i =>
    change n.writeEntry i d = .ok m at hok
    unfold Node.writeEntry at hok
    split at hok
    · cases hok
    · split at hok
      · cases hok
      · rw [← Except.ok.inj hok]
        exact K.quiet h
  | group g =>
    change n.writeGroup g d = .ok m at hok
    unfold Node.writeGroup at hok
    split at hok
    · cases hok
    next hparse =>
      split at hok
      · cases hok
      · split at hok
        · cases hok
        · rw [← Except.ok.inj hok]
          exact K.storeGroup (GroupConfig.parse_sound hparse) (by simp_all) h
  | door i =>
    change n.writeDoor i d = .ok m at hok
    unfold Node.writeDoor at hok
    split at hok
    · cases hok
    · split at hok
      · rw [← Except.ok.inj hok]
        exact K.withDoor .refresh (K.doorConfig _ _ h)
      · cases hok
  | leg l =>
    change n.writeLeg l d = .ok m at hok
    unfold Node.writeLeg at hok
    dsimp only at hok
    split at hok
    next hfits =>
      rw [← Except.ok.inj hok]
      exact K.examineQueue (K.capacity hfits.2 h)
    next => cases hok
  | input i =>
    change n.writeInput i d = .ok m at hok
    unfold Node.writeInput at hok
    split at hok
    · cases hok
    · rw [← Except.ok.inj hok]
      exact K.quiet h
  | zone z => cases hok
  | reports => cases hok

theorem startOperation (h : P n) : P n.startOperation := by
  unfold Node.startOperation
  split
  next hun => exact K.refreshDoors (K.weaken (K.clean.raiseAll _ (K.start hun h)))
  next => exact h

theorem serviceWrite (type idx part : Nat) (data : List Byte) (h : P n) :
    P (n.serviceWrite type idx part data).node := by
  unfold Node.serviceWrite
  split
  · exact h
  · split
    · exact h
    · split
      · exact h
      · split
        next hok => exact K.writeObject hok h
        next => exact h

omit K in
theorem serviceRead (type idx part : Nat) (h : P n) : P (n.serviceRead type idx part).node := by
  unfold Node.serviceRead
  split
  · exact h
  · dsimp only
    split <;> exact h

theorem serviceResult (s : Side) (t : Telegram) (h : P n) : P (n.serviceResult s t).node := by
  unfold Node.serviceResult
  split
  · split
    · exact serviceRead _ _ _ h
    · split
      · exact K.serviceWrite _ _ _ _ h
      · exact h
    · split
      · exact K.startOperation h
      · exact h
    · split <;> exact h
    · exact h
  · exact h

theorem service (s : Side) (t : Telegram) (h : P n) : P (n.service s t) := by
  have hsent := K.clean.sendTo s (serviceReply n t (n.serviceResult s t).status (n.serviceResult s t).data)
    (K.serviceResult s t h)
  unfold Node.service
  dsimp only
  split
  · exact K.refreshDoors (K.restart hsent)
  · exact hsent

/-! ### Reception (chapter 3) -/

theorem routePath (s : Side) (t : Telegram) (h : P n) : P (n.routePath s t) := by
  unfold Node.routePath Node.deliver
  split
  · split
    · exact K.order _ _ h
    · exact K.service _ _ h
    all_goals exact h
  · exact K.clean.forward _ _ h

theorem routeShown (s : Side) (t : Telegram) {r : Node × Shown} (h : P r.1) :
    P (Node.routeShown s t r) := by
  unfold Node.routeShown
  split
  · exact K.routePath _ _ h
  · exact h

theorem switch (s : Side) (t : Telegram) (h : P n) : P (n.switch s t) := by
  have hend : P (n.switchEnd s (hopped t)) := by
    unfold Node.switchEnd
    split
    · exact K.clean.forward _ _ (K.quiet h)
    · exact K.clean.forward _ _ (K.bindReply _ _ h)
    · exact K.zoneReply _ _ h
    all_goals exact K.clean.forward _ _ h
  unfold Node.switch
  split
  · unfold Node.hopLimit
    split
    · exact K.clean.notify _ _ _ h
    · exact h
  · split
    · unfold Node.switchPath
      split
      · exact K.routeShown _ _ (K.bind _ _ h)
      · exact K.routeShown _ _ (K.unbind _ _ h)
      all_goals exact K.routePath _ _ h
    · exact hend
    · exact hend
    · unfold Node.switchZone
      split
      · exact K.zoneOrder _ _ h
      · exact K.teardown _ _ h
      all_goals exact h

theorem receiveGood (s : Side) (t : Telegram) (h : P n) : P (n.receiveGood s t) := by
  unfold Node.receiveGood Node.receiveUp
  split
  next hup =>
    dsimp only
    split
    · exact K.clean.recordNeighbour _ _ (K.clean.loadSilence hup h)
    · exact K.switch _ _ (K.clean.loadSilence hup h)
  next => exact K.clean.prove _ h

theorem receive (s : Side) (t : Telegram) (h : P n) : P (n.receive s t) := by
  unfold Node.receive
  split
  · exact K.receiveGood _ _ h
  · exact K.clean.receiveBad _ h

theorem receiveBytes (s : Side) (bytes : List Byte) (h : P n) : P (n.receiveBytes s bytes) := by
  unfold Node.receiveBytes
  split
  · exact K.receiveGood _ _ h
  · exact K.clean.receiveBad _ h

/-! ### Timers and the tick (section 11.6) -/

theorem expireFan {g : Fin 4} {running : Fan → Timer} {f : FanEnv → FanRun → FanRun}
    (hf : (running n.fans.groups[g]).isSome = true → FanOp n f) (h : P n) :
    P (n.expireFan g running f) := by
  unfold Node.expireFan
  split
  next hrunning => exact K.withFans (hf hrunning) h
  next => exact h

theorem expireDoor {d : Fin 2} {running : Door → Timer} {f : DoorEnv → DoorRun → DoorRun}
    (hf : (running n.doors[d]).isSome = true → DoorOp n.doors[d] f) (h : P n) :
    P (n.expireDoor d running f) := by
  unfold Node.expireDoor
  split
  next hrunning => exact K.withDoor (hf hrunning) (K.weaken h)
  next => exact h

theorem expireStart (g : Fin 4) (h : P n) : P (n.expireStart g) :=
  K.expireFan (fun _ => .startExpired g) h

theorem expireStageUp (g : Fin 4) (h : P n) : P (n.expireStageUp g) :=
  K.expireFan (.stageUpExpired g) h

theorem expireCoast (g : Fin 4) (h : P n) : P (n.expireCoast g) :=
  K.expireFan (fun _ => .coastExpired g) h

theorem expireRest (g : Fin 4) (h : P n) : P (n.expireRest g) :=
  K.expireFan (fun _ => .restExpired g) h

theorem expireRunMin (g : Fin 4) (h : P n) : P (n.expireRunMin g) :=
  K.expireFan (fun _ => .runMinExpired g) h

theorem expireWindmill (g : Fin 4) (h : P n) : P (n.expireWindmill g) :=
  K.expireFan (fun _ => .windmillExpired g) h

theorem expireJam (d : Fin 2) (h : P n) : P (n.expireJam d) := K.expireDoor (fun _ => .jamExpired) h

theorem expireRelatch (d : Fin 2) (h : P n) : P (n.expireRelatch d) := K.expireDoor .relatchExpired h

theorem expireLeftOpen (d : Fin 2) (h : P n) : P (n.expireLeftOpen d) :=
  K.expireDoor (fun _ => .leftOpenExpired) h

theorem expireAssistTail (d : Fin 2) (h : P n) : P (n.expireAssistTail d) :=
  K.expireDoor (fun _ => .assistTailExpired) h

theorem expireFault (d : Fin 2) (h : P n) : P (n.expireFault d) := K.expireDoor (fun _ => .faultExpired) h

theorem expireAckWait (z : Fin 32) (h : P n) : P (n.expireAckWait z) := by
  unfold Node.expireAckWait
  split
  · exact K.closeRecord _ _ h
  · exact h

theorem expireBindWait (z : Fin 32) (h : P n) : P (n.expireBindWait z) := by
  unfold Node.expireBindWait
  split
  next hwaits => exact K.clean.raise _ (K.lapseNote _ _ (K.undoBind z (.inr hwaits) h))
  next => exact h

theorem fanTick (g : Fin 4) (h : P n) : P (n.fanTick g) :=
  whenDue_kept (K.expireWindmill g) <| whenDue_kept (K.expireRunMin g) <|
    whenDue_kept (K.expireRest g) <| whenDue_kept (K.expireCoast g) <|
    whenDue_kept (K.expireStageUp g) <| whenDue_kept (K.expireStart g) h

theorem doorTick (d : Fin 2) (h : P n) : P (n.doorTick d) :=
  whenDue_kept (K.expireFault d) <| whenDue_kept (K.expireAssistTail d) <|
    whenDue_kept (K.expireLeftOpen d) <| whenDue_kept (K.expireRelatch d) <|
    whenDue_kept (K.expireJam d) h

theorem zoneTick (z : Fin 32) (h : P n) : P (n.zoneTick z) :=
  whenDue_kept (K.expireBindWait z) <| whenDue_kept (K.expireAckWait z) h

theorem decayTick (h : P n) : P n.decayTick := by
  unfold Node.decayTick
  split
  · exact K.clean.decayScore _ (K.clean.decayScore _ (K.quiet h))
  · exact h

theorem tick (h : P n) : P n.tick := by
  unfold Node.tick
  extract_lets counted timed decayed sides groups doors zones
  have htimed : P timed := by
    by_cases hsecond : counted.time.clock % Config.ticksPerSecond = 0
    · rw [show timed = _ from if_pos hsecond]
      exact K.quiet (K.count h)
    · rw [show timed = _ from if_neg hsecond]
      exact K.count h
  have hsides : P sides := K.clean.sideTick .east (K.clean.sideTick .west (K.decayTick htimed))
  have hgroups : P groups := foldl_kept groupIndices K.fanTick hsides
  have hzones : P zones := foldl_kept zoneIndices K.zoneTick (K.doorTick 1 (K.doorTick 0 hgroups))
  split
  · exact K.drain (K.ageingStep hzones)
  · exact hzones

theorem powerOnReset (straps : BitVec 7) : P (n.powerOn straps) := by
  unfold Node.powerOn
  split
  · exact K.powerOn n straps
  · exact K.clean.raise _ (K.powerOn n straps)

/-! ### The step -/

omit K in
theorem act {f : Node → Node} {s t : State} (hf : P s.node → P (f s.node)) (hstep : s.act f = .next t)
    (h : P s.node) : P t.node := by
  cases hstep
  exact hf h

theorem exec {c : Instr} {s t : State} (hstep : exec c s = .next t) (h : P s.node) : P t.node := by
  match htel : c.telegram with
  | some (side, tel) =>
    rw [exec_telegram c s side tel htel] at hstep
    exact act (f := Node.receive side tel) (K.receive _ _) hstep h
  | none =>
    cases c <;> try cases htel
    case powerOnReset straps => exact act (fun _ => K.powerOnReset straps) hstep h
    case acquisitionCycle currents => exact act (K.acquire currents) hstep h
    case badTelegram side bytes => exact act (K.receiveBytes _ _) hstep h
    case silenceTimerExpiry side => exact act (K.clean.expireSilence _) hstep h
    case errorScoreDecay side => exact act (K.clean.decayScore _) hstep h
    case idleTimerExpiry side => exact act (K.clean.expireIdle _) hstep h
    case transmissionComplete side => exact act (K.clean.transmissionDone _) hstep h
    case debouncedLevelChange i v => exact act (K.levelChange _ _) hstep h
    case firstReading i v => exact act (K.firstReading _ _) hstep h
    case ageingStep => exact act (K.ageingStep) hstep h
    case drainTick => exact act (K.drain) hstep h
    case startTimerExpiry g => exact act (K.expireStart g) hstep h
    case stageUpTimerExpiry g => exact act (K.expireStageUp g) hstep h
    case coastTimerExpiry g => exact act (K.expireCoast g) hstep h
    case restTimerExpiry g => exact act (K.expireRest g) hstep h
    case runMinTimerExpiry g => exact act (K.expireRunMin g) hstep h
    case windmillTimerExpiry g => exact act (K.expireWindmill g) hstep h
    case jamTimerExpiry d => exact act (K.expireJam d) hstep h
    case relatchTimerExpiry d => exact act (K.expireRelatch d) hstep h
    case leftOpenTimerExpiry d => exact act (K.expireLeftOpen d) hstep h
    case assistTailTimerExpiry d => exact act (K.expireAssistTail d) hstep h
    case faultTimerExpiry d => exact act (K.expireFault d) hstep h
    case ackWaitTimerExpiry z => exact act (K.expireAckWait z) hstep h
    case bindWaitTimerExpiry z => exact act (K.expireBindWait z) hstep h
    case samplingStrobe pins => exact act (K.strobe pins) hstep h
    case uptimeSecond => exact act K.quiet hstep h

/-- A step keeps what the elementary changes keep. -/
theorem step {s t : State} (hstep : step s = .next t) (h : P s.node) : P t.node := by
  obtain ⟨n, pending⟩ := s
  cases pending with
  | nil => exact act (s := ⟨n, []⟩) K.tick hstep h
  | cons c rest => exact K.exec (s := ⟨n, rest⟩) hstep h

end Kept

end Sys2Proof.Machine
end

section
/-!
Settles O3: every change of a side unit keeps it sound, no elementary change but those touches the line.
-/

namespace Sys2Proof.Machine

/-! ### The transmitter of a sound side (R51) -/

/-- A free transmitter with nothing waiting takes the telegram that joins. -/
theorem SideUnit.join_of_free {u : SideUnit} {e : Queued} (hfree : u.transmitting = none)
    (ha : u.alarm = []) (hc : u.control = []) (hs : u.sample = []) (hv : u.service = []) :
    u.join e = { u with transmitting := some e } := by
  obtain ⟨⟩ := u
  dsimp only at hfree ha hc hs hv
  subst hfree ha hc hs hv
  cases hcls : e.telegram.cls <;>
    simp [SideUnit.join, SideUnit.serve, SideUnit.nextClass, SideUnit.setQueue, SideUnit.queue, hcls]

/-- A free transmitter takes the head of its highest class or, with nothing waiting, stays free. -/
theorem SideUnit.serve_of_free {u : SideUnit} (hfree : u.transmitting = none) :
    (∀ e r, u.alarm = e :: r → u.serve = { u with transmitting := some e, alarm := r }) ∧
    (∀ e r, u.alarm = [] → u.control = e :: r →
      u.serve = { u with transmitting := some e, control := r }) ∧
    (∀ e r, u.alarm = [] → u.control = [] → u.sample = e :: r →
      u.serve = { u with transmitting := some e, sample := r }) ∧
    (∀ e r, u.alarm = [] → u.control = [] → u.sample = [] → u.service = e :: r →
      u.serve = { u with transmitting := some e, service := r }) ∧
    (u.alarm = [] → u.control = [] → u.sample = [] → u.service = [] → u.serve = u) := by
  refine ⟨?_, ?_, ?_, ?_, ?_⟩ <;> intros <;>
    simp_all [SideUnit.serve, SideUnit.nextClass, SideUnit.setQueue, SideUnit.queue]

/-! ### Soundness of a side unit (R42 to R52) -/

theorem SideUnit.nextClass_eq_none {u : SideUnit} :
    u.nextClass = none ↔ u.alarm = [] ∧ u.control = [] ∧ u.sample = [] ∧ u.service = [] := by
  unfold SideUnit.nextClass
  split_ifs <;> simp_all

theorem SideUnit.Sound.join {u : SideUnit} (h : u.Sound) {e : Queued} (hup : u.state = .up)
    (hroom : u.hasRoom e.telegram.cls = true) : (u.join e).Sound := by
  obtain ⟨hcount, hscore, hproving, hsilence, -, -, ha, hc, hs, hv, hidle⟩ := h
  cases hfree : u.transmitting with
  | none =>
    obtain ⟨ha', hc', hs', hv', -⟩ := hidle hfree
    rw [SideUnit.join_of_free hfree ha' hc' hs' hv']
    simp_all [SideUnit.Sound]
  | some x =>
    rw [SideUnit.join_of_busy e (by simp [hfree])]
    simp only [SideUnit.hasRoom, decide_eq_true_eq] at hroom
    cases hcls : e.telegram.cls <;> rw [hcls] at hroom <;>
      simp_all [SideUnit.Sound, SideUnit.setQueue, SideUnit.queue, capacity, Config.alarmCapacity,
        Config.controlCapacity, Config.sampleCapacity, Config.serviceCapacity]

/-- An eviction leaves room in the SAMPLE queue. -/
theorem SideUnit.evictAndJoin_eq {u : SideUnit} {e : Queued} (hlen : u.sample.length ≤ 12) :
    ∃ kept, kept.length ≤ 11 ∧ (u.sample = [] → kept = []) ∧
      u.evictAndJoin e = ({ u with sample := kept } : SideUnit).join e := by
  unfold SideUnit.evictAndJoin
  dsimp only
  split
  next hany =>
    obtain ⟨x, hx, hsame⟩ := List.any_eq_true.1 hany
    refine ⟨_, ?_, fun hnil => by simp [hnil], rfl⟩
    rw [List.length_eraseP_of_mem hx hsame]
    omega
  next => exact ⟨_, by rw [List.length_tail]; omega, fun hnil => by simp [hnil], rfl⟩

theorem SideUnit.Sound.evictAndJoin {u : SideUnit} (h : u.Sound) {e : Queued} (hup : u.state = .up)
    (hcls : e.telegram.cls = .sample) : (u.evictAndJoin e).Sound := by
  obtain ⟨hcount, hscore, hproving, hsilence, -, hcut, ha, hc, hs, hv, hidle⟩ := h
  obtain ⟨kept, hkept, hnil, heq⟩ := SideUnit.evictAndJoin_eq (e := e) hs
  rw [heq]
  refine SideUnit.Sound.join (u := { u with sample := kept })
    ⟨hcount, hscore, hproving, hsilence, fun hn => absurd hup hn, hcut, ha, hc,
    hkept.trans (Nat.le_succ 11), hv, fun hn => ?_⟩ hup ?_
  · obtain ⟨ha', hc', hs', hv', hi⟩ := hidle hn
    exact ⟨ha', hc', hnil hs', hv', hi⟩
  · simp only [SideUnit.hasRoom, hcls, SideUnit.queue, capacity, Config.sampleCapacity, decide_eq_true_eq]
    omega

theorem SideUnit.Sound.serve_done {u : SideUnit} (h : u.Sound) :
    ({ u with transmitting := none, idle := some Config.idleTicks } : SideUnit).serve.Sound := by
  obtain ⟨hcount, hscore, hproving, hsilence, hqueues, hcut, ha, hc, hs, hv, -⟩ := h
  obtain ⟨h1, h2, h3, h4, h5⟩ := SideUnit.serve_of_free
    (u := { u with transmitting := none, idle := some Config.idleTicks }) rfl
  by_cases hqa : u.alarm = []
  · by_cases hqc : u.control = []
    · by_cases hqs : u.sample = []
      · by_cases hqv : u.service = []
        · rw [h5 hqa hqc hqs hqv]
          simp_all [SideUnit.Sound, SideUnit.cutOff]
        · obtain ⟨e, r, hq⟩ := List.exists_cons_of_ne_nil hqv
          rw [h4 e r hqa hqc hqs hq]
          simp_all [SideUnit.Sound]
          omega
      · obtain ⟨e, r, hq⟩ := List.exists_cons_of_ne_nil hqs
        rw [h3 e r hqa hqc hq]
        simp_all [SideUnit.Sound]
        omega
    · obtain ⟨e, r, hq⟩ := List.exists_cons_of_ne_nil hqc
      rw [h2 e r hqa hq]
      simp_all [SideUnit.Sound]
      omega
  · obtain ⟨e, r, hq⟩ := List.exists_cons_of_ne_nil hqa
    rw [h1 e r hq]
    simp_all [SideUnit.Sound]
    omega

theorem SideUnit.Sound.drop {u : SideUnit} (h : u.Sound) : u.drop.Sound := by
  obtain ⟨-, hscore, -, -, -, -, -, -, -, -, hidle⟩ := h
  cases hbusy : u.transmitting with
  | none => simp_all [SideUnit.Sound, SideUnit.drop, SideUnit.cutOff]
  | some x =>
    by_cases hk : x.telegram.kind = .idle
    · simp_all [SideUnit.Sound, SideUnit.drop, SideUnit.cutOff]
    · cases hi : u.idle <;> simp_all [SideUnit.Sound, SideUnit.drop, SideUnit.cutOff]

/-- Every change of a side unit keeps it sound. -/
theorem SideStep.sound {u v : SideUnit} (hstep : SideStep u v) (h : u.Sound) : v.Sound := by
  cases hstep with
  | join e hup hroom => exact h.join hup hroom
  | evict e hup hcls => exact h.evictAndJoin hup hcls
  | drop hup => exact h.drop
  | done hbusy => exact h.serve_done
  | enterUp ticks hproving => simp_all [SideUnit.Sound]
  | bad =>
    obtain ⟨hcount, hscore, hproving, hrest⟩ := h
    refine ⟨?_, by simp, ?_, hrest⟩
    · dsimp only
      split <;> omega
    · intro hnot
      rw [if_neg hnot]
      exact hproving hnot
  | startProving ticks hdown => simp_all [SideUnit.Sound, SideUnit.cutOff]
  | advance ticks hproving hcount => simp_all [SideUnit.Sound, SideUnit.cutOff]; omega
  | loadSilence ticks hup => simp_all [SideUnit.Sound, SideUnit.cutOff]
  | neighbour id run => exact h
  | decay =>
    obtain ⟨hcount, hscore, hrest⟩ := h
    exact ⟨hcount, by dsimp only; omega, hrest⟩
  | idleSent e hidle =>
    obtain ⟨hcount, hscore, hproving, hsilence, hqueues, hcut, ha, hc, hs, hv, hfree⟩ := h
    refine ⟨hcount, hscore, hproving, hsilence, hqueues, fun hn => ?_, ha, hc, hs, hv, ?_⟩
    · have hcut' := hcut hn
      unfold SideUnit.cutOff at hcut' ⊢
      dsimp only
      split
      · simp [hidle]
      · exact hcut'
    · dsimp only
      split
      · simp
      next hnot =>
        intro hn
        obtain ⟨ha', hc', hs', hv', -⟩ := hfree hn
        simp [hn, SideUnit.nextClass_eq_none, ha', hc', hs', hv'] at hnot
  | silent hproving => simp_all [SideUnit.Sound, SideUnit.cutOff]

theorem SideUnit.Sound.tick {u : SideUnit} (h : u.Sound) : u.tick.Sound := by
  simpa [SideUnit.Sound, SideUnit.tick, Timer.tick, SideUnit.cutOff] using h

theorem SideUnit.sound_reset : ({} : SideUnit).Sound := by
  simp [SideUnit.Sound, SideUnit.cutOff]

/-! ### Both side units -/

theorem Node.modSide_sound {n : Node} {s : Side} {f : SideUnit → SideUnit}
    (hstep : SideStep (n.side s) (f (n.side s))) (h : n.line.Sound) : (n.modSide s f).line.Sound := by
  cases s
  · exact ⟨hstep.sound h.1, h.2⟩
  · exact ⟨h.1, hstep.sound h.2⟩

theorem lineKept_line : LineKept fun n => n.line.Sound where
  raise r h := by rwa [Node.raise_line]
  side := Node.modSide_sound
  run _ _ h := h

theorem line_kept : Kept (fun n => n.line.Sound) fun n => n.line.Sound where
  clean := lineKept_line
  dirty := lineKept_line
  weaken h := h
  quiet h := h
  drained h := h
  fans _ h := h
  examine h := h
  present h := h
  start _ h := h
  door _ h := h
  doorConfig _ _ h := h
  demand _ _ h := h
  orderTarget _ _ _ h := h
  config _ _ h := h
  capacity _ h := h
  applyOrder _ _ _ h := h
  record _ h := h
  relay _ _ h := h
  free _ h := h
  bindTarget _ _ _ _ h := h
  bindEnter _ _ _ _ _ h := h
  restored _ _ h := h
  confirmed _ h := h
  reconfirmed _ _ h := h
  lapseNote _ _ h := h
  noForward _ h := h
  count h := ⟨h.1.tick, h.2.tick⟩
  restart h := h
  powerOn _ _ := ⟨SideUnit.sound_reset, SideUnit.sound_reset⟩

/-- Settles O3: what the elementary changes keep, a step keeps. -/
theorem lineSoundKept : Obligations.LineSoundKept := by
  unfold Obligations.LineSoundKept
  intro s t h hstep
  exact line_kept.step hstep h

end Sys2Proof.Machine
end

section
/-!
Settles O4: what raising a report and draining the queue make of it, and that nothing else touches it.
-/

namespace Sys2Proof.Machine

/-! ### Taking a report (R165 to R167) -/

theorem ReportEntry.matches_iff (e : ReportEntry) (r : Report) :
    e.matches r = true ↔ e.key = (r.kind, r.object) := by
  simp [ReportEntry.matches, ReportEntry.key]

theorem ReportEntry.fold_key (e : ReportEntry) (now : Nat) (r : Report) : (e.fold now r).key = e.key := rfl

/-- A queue that loses entries stays sound. -/
theorem ReportQueue.Sound.sublist {q : ReportQueue} (h : q.Sound) {l : List ReportEntry}
    (hl : l.Sublist q.entries) (lost : Bool) (sequence : Byte) :
    ({ entries := l, lost := lost, sequence := sequence } : ReportQueue).Sound := by
  obtain ⟨hlen, hkeys, hcounts⟩ := h
  exact ⟨hl.length_le.trans hlen, hkeys.sublist (hl.map _), fun e he => hcounts e (hl.mem he)⟩

/-- A report that matches no entry joins where there is room. -/
theorem ReportQueue.Sound.append {q : ReportQueue} (h : q.Sound) (now : Nat) {r : Report}
    (hroom : q.entries.length < 16) (hother : ∀ e ∈ q.entries, e.matches r = false) (lost : Bool) :
    ({ q with entries := q.entries ++ [r.entry now], lost := lost } : ReportQueue).Sound := by
  obtain ⟨hlen, hkeys, hcounts⟩ := h
  refine ⟨by simp; omega, ?_, ?_⟩
  · rw [List.map_append, List.nodup_append]
    refine ⟨hkeys, List.nodup_singleton _, ?_⟩
    intro k hk k' hk'
    obtain ⟨e, he, rfl⟩ := List.mem_map.1 hk
    rw [List.map_singleton, List.mem_singleton] at hk'
    rintro rfl
    have hmatch := (e.matches_iff r).2 hk'
    rw [hother e he] at hmatch
    cases hmatch
  · intro e he
    rcases List.mem_append.1 he with he | he
    · exact hcounts e he
    · rw [List.mem_singleton.1 he]
      simp [Report.entry]

theorem ReportQueue.Sound.fold {q : ReportQueue} (h : q.Sound) (now : Nat) (r : Report) :
    ({ q with entries := q.entries.map fun e => if e.matches r then e.fold now r else e } :
      ReportQueue).Sound := by
  obtain ⟨hlen, hkeys, hcounts⟩ := h
  refine ⟨by simpa using hlen, ?_, ?_⟩
  · have hsame : ReportEntry.key ∘ (fun e => if e.matches r then e.fold now r else e) =
        ReportEntry.key := by
      funext e
      dsimp only [Function.comp]
      split
      · exact e.fold_key now r
      · rfl
    rw [List.map_map, hsame]
    exact hkeys
  · intro e he
    obtain ⟨x, hx, rfl⟩ := List.mem_map.1 he
    have := hcounts x hx
    split
    · simp only [ReportEntry.fold]
      omega
    · exact this

theorem ReportQueue.Sound.overflow {q : ReportQueue} (h : q.Sound) (now : Nat) {r : Report}
    (hother : ∀ e ∈ q.entries, e.matches r = false) : (q.overflow now r).Sound := by
  have shorter : ∀ {l : List ReportEntry}, l.Sublist q.entries → l.length < 16 →
      ({ q with entries := l ++ [r.entry now], lost := true } : ReportQueue).Sound := fun hl hlen =>
    (h.sublist hl true q.sequence).append now hlen (fun e he => hother e (hl.mem he)) true
  have hlen : q.entries.length ≤ 16 := h.1
  unfold ReportQueue.overflow
  split
  next hany =>
    obtain ⟨x, hx, hinfo⟩ := List.any_eq_true.1 hany
    refine shorter (List.eraseP_sublist) ?_
    rw [List.length_eraseP_of_mem hx hinfo]
    have := List.length_pos_of_mem hx
    omega
  next =>
    split
    · exact h
    · exact shorter (List.tail_sublist _) (by rw [List.length_tail]; omega)

/-- The queue stays sound when it takes a report. -/
theorem ReportQueue.Sound.add {q : ReportQueue} (h : q.Sound) (now : Nat) (r : Report) :
    (q.add now r).Sound := by
  unfold ReportQueue.add
  split
  · exact h.fold now r
  next hnone =>
    have hother : ∀ e ∈ q.entries, e.matches r = false := by simpa using hnone
    split
    next hroom => exact h.append now hroom hother q.lost
    next => exact h.overflow now hother

/-! ### Draining (R169) -/

theorem dropFirst_sublist {α : Type} (p : α → Bool) (k : Nat) (l : List α) :
    (dropFirst p k l).Sublist l := by
  induction l generalizing k with
  | nil => cases k <;> exact .slnil
  | cons a l ih =>
    cases k with
    | zero => exact List.Sublist.refl _
    | succ k =>
      unfold dropFirst
      split
      · exact (ih k).cons a
      · exact (ih (k + 1)).cons_cons a

theorem ReportQueue.left_sublist (q : ReportQueue) : q.left.Sublist q.entries :=
  (dropFirst_sublist _ _ _).trans (dropFirst_sublist _ _ _)

theorem ReportQueue.Sound.drained {q : ReportQueue} (h : q.Sound) : q.drained.Sound :=
  h.sublist q.left_sublist _ _

/-! ### The node -/

theorem ReportQueue.sound_empty : ({} : ReportQueue).Sound := by simp [ReportQueue.Sound]

theorem lineKept_reports : LineKept fun n => n.reports.Sound where
  raise {n} r h := by
    unfold Node.raise
    split
    · exact ReportQueue.Sound.add h _ _
    · exact h
  side _ h := h
  run _ _ h := h

theorem reports_kept : Kept (fun n => n.reports.Sound) fun n => n.reports.Sound where
  clean := lineKept_reports
  dirty := lineKept_reports
  weaken h := h
  quiet h := h
  drained h := h.drained
  fans _ h := h
  examine h := h
  present h := h
  start _ h := h
  door _ h := h
  doorConfig _ _ h := h
  demand _ _ h := h
  orderTarget _ _ _ h := h
  config _ _ h := h
  capacity _ h := h
  applyOrder _ _ _ h := h
  record _ h := h
  relay _ _ h := h
  free _ h := h
  bindTarget _ _ _ _ h := h
  bindEnter _ _ _ _ _ h := h
  restored _ _ h := h
  confirmed _ h := h
  reconfirmed _ _ h := h
  lapseNote _ _ h := h
  noForward _ h := h
  count h := h
  restart _ := ReportQueue.sound_empty
  powerOn _ _ := ReportQueue.sound_empty

/-- Settles O4: what the elementary changes keep, a step keeps. -/
theorem reportsSoundKept : Obligations.ReportsSoundKept := by
  unfold Obligations.ReportsSoundKept
  intro s t h hstep
  exact reports_kept.step hstep h

end Sys2Proof.Machine
end

section
/-!
Settles O5: every step of a door supervisor keeps the door sound (R125 to R134).
-/

namespace Sys2Proof.Machine

/-! ### Cause sets -/

theorem Causes.isEmpty_iff (c : Causes) : c.isEmpty = true ↔
    c.request = false ∧ c.zone = false ∧ c.suspect = false ∧ c.order = false ∧ c.dflt = false := by
  simp [Causes.isEmpty, and_assoc]

/-! ### A sound door but for its beacon

Every operation that changes the causes or the state lights the beacon again, so soundness is followed
without it. -/

/-- Soundness of a door but for the beacon. -/
abbrev Door.Fit (d : Door) : Prop :=
  (d.hold = true ↔ d.state = .secured ∨ (d.state = .released ∧ d.relatchWait = true)) ∧
    (d.state = .secured → d.causes.isEmpty = true) ∧
    (d.relatchWait = true → d.state = .released ∧ d.causes.isEmpty = true ∧ d.relatch = none) ∧
    (d.relatch.isSome = true → d.state = .released ∧ d.causes.isEmpty = true) ∧
    (d.jam.isSome = true → d.state = .released ∧ d.causes.request = true) ∧
    (d.leftOpen.isSome = true → d.state = .opened) ∧
    (d.assistTail.isSome = true → d.state = .opened) ∧
    (d.assist = true → (d.state = .released ∧ d.causes.request = true) ∨
      (d.state = .opened ∧ d.assistTail.isSome = true)) ∧
    (d.state = .fault → d.causes.dflt = true ∧ d.faultTimer = none)

/-- The beacon follows the causes and OPEN (R133). -/
def Door.Lit (d : Door) : Prop :=
  d.beacon = true ↔ d.causes.zone = true ∨ d.causes.suspect = true ∨ d.state = .opened

theorem Door.sound_iff (d : Door) : d.Sound ↔ d.Fit ∧ d.Lit := by
  constructor
  · rintro ⟨hhold, hbeacon, hrest⟩
    exact ⟨⟨hhold, hrest⟩, hbeacon⟩
  · rintro ⟨⟨hhold, hrest⟩, hbeacon⟩
    exact ⟨hhold, hbeacon, hrest⟩

theorem Door.Fit.lit {d : Door} (h : d.Fit) : d.light.Sound :=
  (Door.sound_iff _).2 ⟨h, by simp [Door.Lit, Door.light, or_assoc]⟩

theorem Door.Sound.fit {d : Door} (h : d.Sound) : d.Fit := ((Door.sound_iff d).1 h).1

theorem Door.Sound.lit {d : Door} (h : d.Sound) : d.Lit := ((Door.sound_iff d).1 h).2

/-- A door in relatch wait has no cause (R128). -/
theorem Door.Fit.no_request {d : Door} (h : d.Fit) (hwait : d.relatchWait = true) :
    d.causes.request = false := by
  obtain ⟨-, -, hempty, -⟩ := h
  exact ((Causes.isEmpty_iff _).1 (hempty hwait).2.1).1

theorem Door.Fit.empty_of_secured {d : Door} (h : d.Fit) (hsecured : d.state = .secured) :
    d.causes.isEmpty = true := by
  obtain ⟨-, hempty, -⟩ := h
  exact hempty hsecured

theorem Door.Fit.of_relatch {d : Door} (h : d.Fit) (hrunning : d.relatch.isSome = true) :
    d.state = .released ∧ d.causes.isEmpty = true := by
  obtain ⟨-, -, -, hrelatch, -⟩ := h
  exact hrelatch hrunning

theorem Door.Fit.dflt_of_fault {d : Door} (h : d.Fit) (hfault : d.state = .fault) :
    d.causes.dflt = true := by
  obtain ⟨-, -, -, -, -, -, -, -, hf⟩ := h
  exact (hf hfault).1

/-! ### Relatching (R126, R128) -/

/-- A RELEASED door with no cause relatches into SECURED or relatch wait. -/
theorem Door.Fit.relatchNow {d : Door} (h : d.Fit) (env : DoorEnv) (hreleased : d.state = .released)
    (hempty : d.causes.isEmpty = true) : (d.relatchNow env).Fit := by
  have hrequest : d.causes.request = false := ((Causes.isEmpty_iff _).1 hempty).1
  unfold Door.relatchNow
  split <;> simp_all [Door.Fit]

theorem Door.Fit.startRelatch {d : Door} (h : d.Fit) (env : DoorEnv) (hreleased : d.state = .released)
    (hempty : d.causes.isEmpty = true) (hwait : d.relatchWait = false) : (d.startRelatch env).Fit := by
  unfold Door.startRelatch
  split
  · exact h
  · split
    · exact h.relatchNow env hreleased hempty
    · simp_all [Door.Fit]

theorem Door.relatchNow_lit {d : Door} (h : d.Lit) (env : DoorEnv) (hreleased : d.state = .released) :
    (d.relatchNow env).Lit := by
  unfold Door.relatchNow
  split <;> simp_all [Door.Lit]

theorem Door.startRelatch_lit {d : Door} (h : d.Lit) (env : DoorEnv) (hreleased : d.state = .released) :
    (d.startRelatch env).Lit := by
  unfold Door.startRelatch
  split
  · exact h
  · split
    · exact Door.relatchNow_lit h env hreleased
    · exact h

/-! ### A change of the cause set (R124, R126, R128) -/

/-- A change of the cause set, which must leave REQUEST to a door that uses it and DEFAULT to one in
FAULT. -/
theorem Door.Fit.setCauses {d : Door} (h : d.Fit) (env : DoorEnv) {c : Causes}
    (hrequest : d.causes.request = true → c.request = true) (hfault : d.state = .fault → c.dflt = true) :
    (d.setCauses env c).Sound := by
  unfold Door.setCauses
  dsimp only
  refine Door.Fit.lit ?_
  split
  next happears =>
    obtain ⟨hwas, his⟩ := happears
    cases hstate : d.state <;> simp_all [Door.Fit, Door.causeAppears]
  next hstays =>
    split
    next hgone =>
      obtain ⟨hwas, his⟩ := hgone
      have hnone := (Causes.isEmpty_iff c).1 his
      cases hstate : d.state with
      | released =>
        have hfit : ({ d with causes := c } : Door).Fit := by simp_all [Door.Fit]
        have hwait : d.relatchWait = false := by simp_all [Door.Fit]
        have hstart := hfit.startRelatch env hstate his hwait
        simpa [Door.causesGone, hstate] using hstart
      | secured | opened | jammed | fault => simp_all [Door.Fit, Door.causesGone]
    next hgone =>
      have hsame : c.isEmpty = d.causes.isEmpty := by
        cases hc : c.isEmpty <;> cases hd : d.causes.isEmpty <;> simp_all
      simp_all [Door.Fit]
      grind

/-- A door in FAULT takes its causes and does nothing else (R131). -/
theorem Door.setCauses_of_fault (env : DoorEnv) {d : Door} (c : Causes) (hfault : d.state = .fault) :
    d.setCauses env c = ({ d with causes := c } : Door).light := by
  unfold Door.setCauses Door.causeAppears Door.causesGone
  simp [hfault]

/-- The causes formed again suit every door: REQUEST is kept, and a door in FAULT has DEFAULT (R124). -/
theorem Door.Fit.refresh {d : Door} (h : d.Fit) (env : DoorEnv) :
    (d.setCauses env (d.formCauses env)).Sound :=
  h.setCauses env id fun hfault => by simp [Door.formCauses, hfault]

/-! ### OPEN (R127, R129) -/

/-- Entry to OPEN asks nothing of the door but that its fault timer is its own. -/
theorem Door.open_sound (env : DoorEnv) (d : Door) : (d.open env).Sound := by
  refine Door.Fit.lit ?_
  cases ha : d.assist <;> simp_all [Door.Fit]

theorem Door.Sound.close {d : Door} (h : d.Sound) (env : DoorEnv) (hopened : d.state = .opened) :
    (d.close env).Sound := by
  have hfit := h.fit
  clear h
  have hreleased : Door.Fit { d with
      state := .released, causes := { d.causes with request := false }, leftOpen := none,
      assistTail := none, assist := false } := by simp_all [Door.Fit]
  unfold Door.close
  dsimp only
  refine Door.Fit.lit ?_
  split
  next hempty => exact hreleased.startRelatch env rfl hempty (by simp_all [Door.Fit])
  next => exact hreleased

/-! ### Latch contact and fault pair (R126, R128, R131) -/

theorem Door.Sound.latchChanged {d : Door} (h : d.Sound) (env : DoorEnv) : (d.latchChanged env).Sound := by
  have hfit := h.fit
  have hlit := h.lit
  unfold Door.latchChanged
  split
  · split
    · clear h
      exact (Door.sound_iff _).2 ⟨by simp_all [Door.Fit], by simp_all [Door.Lit]⟩
    · exact h
  · split
    next hseated =>
      have hrequest := hfit.no_request hseated.1
      clear h
      exact (Door.sound_iff _).2 ⟨by simp_all [Door.Fit], by simp_all [Door.Lit]⟩
    next => exact h
  all_goals exact h

theorem Door.Sound.leaveFault {d : Door} (h : d.Sound) (env : DoorEnv) (hfault : d.state = .fault) :
    (d.leaveFault env).Sound := by
  have hfit := h.fit
  clear h
  unfold Door.leaveFault
  dsimp only
  split
  · refine Door.Fit.refresh ?_ env
    split <;> simp_all [Door.Fit, Door.startJam]
  · exact (Door.open_sound env d).fit.refresh env

theorem Door.Sound.checkPair {d : Door} (h : d.Sound) (env : DoorEnv) : (d.checkPair env).Sound := by
  unfold Door.checkPair
  split
  next hfault =>
    split
    · exact h
    · exact h.leaveFault env hfault
  next hnot =>
    have hfit := h.fit
    exact (Door.sound_iff _).2 ⟨by simp_all [Door.Fit], h.lit⟩

theorem Door.Sound.relatchIfEmpty {d : Door} (h : d.Sound) (env : DoorEnv) :
    (d.relatchIfEmpty env).Sound := by
  unfold Door.relatchIfEmpty
  split
  next hidle =>
    obtain ⟨hreleased, hempty, -, hwait⟩ := hidle
    exact (Door.sound_iff _).2 ⟨h.fit.startRelatch env hreleased hempty (by simpa using hwait),
      Door.startRelatch_lit h.lit env hreleased⟩
  next => exact h

/-! ### PUSH (R123, R130, R132) -/

/-- A RELEASED door with REQUEST may start its jam timer and decide on ASSIST. -/
theorem Door.Sound.requested {d : Door} (h : d.Sound) (env : DoorEnv) (hreleased : d.state = .released)
    (hrequest : d.causes.request = true) : (d.startJam.decideAssist env).Sound := by
  have hfit := h.fit
  exact (Door.sound_iff _).2
    ⟨by simp_all [Door.Fit, Door.startJam, Door.decideAssist], h.lit⟩

theorem Door.setCauses_state (env : DoorEnv) {d : Door} {c : Causes}
    (hstate : d.state = .secured ∨ d.state = .released) (hc : c.isEmpty = false)
    (hsecured : d.state = .secured → d.causes.isEmpty = true) : (d.setCauses env c).state = .released := by
  unfold Door.setCauses Door.causeAppears
  rcases hstate with hstate | hstate <;> simp_all
  split <;> simp_all

theorem Door.Sound.push {d : Door} (h : d.Sound) (env : DoorEnv) : (d.push env).Sound := by
  have hset : (d.setCauses env { d.causes with request := true }).Sound :=
    h.fit.setCauses env (fun _ => rfl) fun hfault => h.fit.dflt_of_fault hfault
  have hcauses : (d.setCauses env { d.causes with request := true }).causes.request = true :=
    congrArg Causes.request (Door.setCauses_frame env _ d).1
  have hreleased (hstate : d.state = .secured ∨ d.state = .released) :
      (d.setCauses env { d.causes with request := true }).state = .released :=
    Door.setCauses_state env hstate (by simp [Causes.isEmpty]) h.fit.empty_of_secured
  unfold Door.push
  split
  · exact h
  · dsimp only
    split
    next hstate => exact hset.requested env (hreleased (.inl hstate)) hcauses
    next hstate => exact hset.requested env (hreleased (.inr hstate)) hcauses
    next hstate =>
      have hfit := h.fit
      clear h
      refine Door.Sound.requested (Door.Fit.lit ?_) env rfl rfl
      simp_all [Door.Fit]
    · exact hset
    · exact hset

/-! ### The steps of a door -/

/-- Every step of a door supervisor keeps its door sound. -/
theorem DoorOp.sound {d : Door} {f : DoorEnv → DoorRun → DoorRun} (hf : DoorOp d f) (env : DoorEnv)
    (h : d.Sound) : (f env { door := d, raised := [] }).door.Sound := by
  have hfit := h.fit
  cases hf with
  | refresh => exact hfit.refresh env
  | setOrder on => exact hfit.setCauses env id fun hfault => hfit.dflt_of_fault hfault
  | closedEdge v =>
    refine Door.Sound.checkPair ?_ env
    cases v with
    | false =>
      simp only [DoorRun.leafLeaves, Bool.false_eq_true, if_false]
      split
      · exact Door.open_sound env d
      · exact Door.open_sound env d
      · exact Door.open_sound env d
      · exact h
      · exact h
    | true =>
      simp only [DoorRun.leafReturns, if_true]
      split
      next hopened => exact h.close env hopened
      all_goals exact h
  | latchedEdge => exact (h.latchChanged env).checkPair env
  | pushEdge v =>
    cases v with
    | false => exact h
    | true => exact h.push env
  | closedFirst v =>
    refine Door.Sound.relatchIfEmpty (Door.Sound.checkPair ?_ env) env
    cases v with
    | false => exact Door.open_sound env _
    | true =>
      refine Door.Fit.lit ?_
      have hempty : d.causes.isEmpty = true → ({ d.causes with request := false } : Causes).isEmpty = true :=
        fun hd => by simpa [Causes.isEmpty, and_assoc] using ((Causes.isEmpty_iff _).1 hd).2
      clear h
      simp_all [Door.Fit]
  | latchedFirst => exact ((h.latchChanged env).checkPair env).relatchIfEmpty env
  | jamExpired =>
    have hlit := h.lit
    clear h
    simp only [DoorRun.jamExpired]
    split
    next hreleased => exact Door.Fit.lit (by simp_all [Door.Fit])
    next => exact (Door.sound_iff _).2 ⟨by simp_all [Door.Fit, DoorRun.mod], hlit⟩
  | relatchExpired hrunning =>
    have hreleased : d.state = .released ∧ d.causes.isEmpty = true := hfit.of_relatch hrunning
    simp only [DoorRun.relatchExpired, hreleased.1]
    exact (Door.sound_iff _).2 ⟨hfit.relatchNow env hreleased.1 hreleased.2,
      Door.relatchNow_lit h.lit env hreleased.1⟩
  | leftOpenExpired =>
    exact (Door.sound_iff _).2
      ⟨by simp_all [Door.Fit, DoorRun.leftOpenExpired, DoorRun.mod, DoorRun.raise], h.lit⟩
  | assistTailExpired =>
    exact (Door.sound_iff _).2 ⟨by simp_all [Door.Fit, DoorRun.assistTailExpired, DoorRun.mod], h.lit⟩
  | faultExpired =>
    simp only [DoorRun.faultExpired, DoorRun.mod, DoorRun.raise, Door.setCauses_of_fault]
    exact Door.Fit.lit (by simp [Door.Fit, Door.formCauses])

/-! ### The node -/

theorem Door.Sound.tick {d : Door} (h : d.Sound) : d.tick.Sound := by
  simpa [Door.Sound, Door.tick, Timer.tick] using h

theorem Door.sound_reset : ({} : Door).Sound := by simp [Door.Sound]

theorem Node.ranDoor_sound {n : Node} {d : Fin 2} {f : DoorEnv → DoorRun → DoorRun}
    (hf : DoorOp n.doors[d] f) (h : n.DoorsSound) : (n.ranDoor d f).DoorsSound := by
  intro i
  by_cases hi : d = i
  · subst hi
    simpa [Node.ranDoor] using hf.sound (n.doorEnv d) (h d)
  · have hi' : d.val ≠ i.val := fun e => hi (Fin.ext e)
    simpa [Node.ranDoor, hi'] using h i

theorem lineKept_doors : LineKept fun n => n.DoorsSound where
  raise r h := by
    intro d
    rw [Node.raise_doors]
    exact h d
  side _ h := h
  run _ _ h := h

theorem doors_kept : Kept (fun n => n.DoorsSound) fun n => n.DoorsSound where
  clean := lineKept_doors
  dirty := lineKept_doors
  weaken h := h
  quiet h := h
  drained h := h
  fans _ h := h
  examine h := h
  present h := h
  start _ h := h
  door := Node.ranDoor_sound
  doorConfig {n} d c h := by
    intro i
    by_cases hi : d = i
    · subst hi
      simpa [Node.withDoorConfig] using h d
    · simpa [Node.withDoorConfig, upd_ne _ _ _ _ hi] using h i
  demand _ _ h := h
  orderTarget _ _ _ h := h
  config _ _ h := h
  capacity _ h := h
  applyOrder _ _ _ h := h
  record _ h := h
  relay _ _ h := h
  free _ h := h
  bindTarget _ _ _ _ h := h
  bindEnter _ _ _ _ _ h := h
  restored _ _ h := h
  confirmed _ h := h
  reconfirmed _ _ h := h
  lapseNote _ _ h := h
  noForward _ h := h
  count h := fun i => by simpa [Node.countTick] using (h i).tick
  restart h := h
  powerOn _ _ := fun i => by simpa [Node.restarted, Node.reset] using Door.sound_reset

/-- Settles O5: what the elementary changes keep, a step keeps. -/
theorem doorsSoundKept : Obligations.DoorsSoundKept := by
  unfold Obligations.DoorsSoundKept
  intro s t h hstep
  exact doors_kept.step hstep h

end Sys2Proof.Machine
end

section
/-!
What the operations of the group machines do to the account, whatever state the groups are in: they are made
of changes of the groups they act on (never of the target presented last), entries that join and leave the
queue, the slot, the charge and the return of a draw. A predicate that none of these breaks survives them all;
`S` names the groups whose changes it survives, so that a predicate of one group survives what happens to the
others.
-/

namespace Sys2Proof.Machine

/-- A predicate of the account that the elementary changes of the groups in `S` keep. -/
structure FanClosed (env : FanEnv) (S : Fin 4 → Prop) (I : Fans → Prop) : Prop where
  group : ∀ {F : Fans} {g : Fin 4} {f : Fan → Fan}, S g → (∀ x, (f x).presented = x.presented) → I F →
    I (F.modGroup g f)
  remove : ∀ {F : Fans} {g : Fin 4}, S g → I F → I (F.removeEntry g)
  join : ∀ {F : Fans} {e : StartEntry}, S e.group → I F → I { F with queue := joinQueue F.queue e }
  change : ∀ {F : Fans} {g : Fin 4} {e : StartEntry}, S g → e.group = g → I F →
    I { F with queue := F.queue.map fun x => if x.group = g then e else x }
  slot : ∀ {F : Fans} {s : Option (Fin 4 × Purpose)}, I F → I { F with slot := s }
  choices : ∀ {F : Fans} {k : Nat}, I F → I { F with choices := k }
  charge : ∀ {F : Fans} {e : StartEntry} {l : Leg}, S e.group → I F → I (F.charge env e l)
  returnDraw : ∀ {F : Fans} {g : Fin 4}, S g → I F → I (F.returnDraw env g)
  returnStage : ∀ {F : Fans} {g : Fin 4}, S g → I F → I (F.returnStage env g)
  queued : ∀ {F : Fans}, I F → ∀ e ∈ F.queue, S e.group

theorem Fans.firstMet_mem {F : Fans} {env : FanEnv} {q : List StartEntry} {e : StartEntry} {l : Leg}
    (h : F.firstMet env q = some (e, l)) : e ∈ q ∧ F.drawTest env e = some l := by
  induction q with
  | nil => cases h
  | cons x xs ih =>
    unfold Fans.firstMet at h
    split at h
    next hmet =>
      cases h
      exact ⟨List.mem_cons_self, hmet⟩
    next =>
      obtain ⟨hmem, hmet⟩ := ih h
      exact ⟨List.mem_cons_of_mem _ hmem, hmet⟩

/-- An answer notes a group and leaves the account. -/
@[simp] theorem FanRun.answer_fans (env : FanEnv) (e : StartEntry) (r : FanRun) :
    (r.answer env e).fans = r.fans := by
  unfold FanRun.answer
  split <;> rfl

theorem FanRun.joinEntry_fans (env : FanEnv) (e : StartEntry) (r : FanRun) :
    (r.joinEntry env e).fans = { r.fans with queue := joinQueue r.fans.queue e } :=
  FanRun.answer_fans _ _ _

theorem foldl_fans_kept {I : Fans → Prop} (l : List (Fin 4)) {f : FanRun → Fin 4 → FanRun}
    (hf : ∀ {r : FanRun} (g : Fin 4), I r.fans → I (f r g).fans) {r : FanRun} (h : I r.fans) :
    I (l.foldl f r).fans := by
  induction l generalizing r with
  | nil => exact h
  | cons g l ih => exact ih (hf g h)

namespace FanClosed

variable {env : FanEnv} {S : Fin 4 → Prop} {I : Fans → Prop} (C : FanClosed env S I)
  {ex : FanRun → FanRun} {r : FanRun} {g : Fin 4}
include C

theorem releaseSlot {F : Fans} (h : I F) : I (F.releaseSlot g) := by
  unfold Fans.releaseSlot
  split
  · split
    · exact C.slot h
    · exact h
  · exact h

theorem shutDown (hg : S g) (h : I r.fans) : I (r.shutDown env g).fans :=
  C.group hg (fun _ => rfl) (C.releaseSlot (C.remove hg (C.returnDraw hg h)))

theorem enterStopping (hg : S g) (c : StopCause) (keep : Option Target) (h : I r.fans) :
    I (r.enterStopping env g c keep).fans :=
  C.group hg (fun _ => rfl) (C.shutDown hg h)

theorem trip (hg : S g) (c : TripCause) (h : I r.fans) : I (r.trip env g c).fans := by
  have htripped : I (((r.shutDown env g).modFan g fun f =>
      { f with state := .tripped, tripCause := some c, pending := none,
               coast := Timer.seconds (env.config g).coastTime }).fans) :=
    C.group hg (fun _ => rfl) (C.shutDown hg h)
  cases c <;> exact htripped

theorem lock (hg : S g) (h : I r.fans) : I (r.lock env g).fans :=
  C.group hg (fun _ => rfl) (C.shutDown hg h)

theorem stageDown (hg : S g) (h : I r.fans) : I (r.stageDown env g).fans := by
  refine C.group (f := fun f => { f with high := false, stage := 1, stageUp := none }) hg (fun _ => rfl) ?_
  have hreturned := C.returnStage hg h
  change I (if (r.fan g).state == .running then (r.fans.returnStage env g).releaseSlot g else
    r.fans.returnStage env g)
  split
  · exact C.releaseSlot hreturned
  · exact hreturned

theorem joinEntry {e : StartEntry} (he : S e.group) (h : I r.fans) : I (r.joinEntry env e).fans := by
  rw [FanRun.joinEntry_fans]
  exact C.join he h

theorem enterQueued (hex : ∀ r, I r.fans → I (ex r).fans) (hg : S g) (t : Target) (h : I r.fans) :
    I (r.enterQueued ex env g t).fans :=
  hex _ (C.joinEntry hg (C.group hg (fun _ => rfl) h))

theorem override (hex : ∀ r, I r.fans → I (ex r).fans) (hg : S g) (t : Target) (h : I r.fans) :
    I (r.override ex env g t).fans :=
  C.enterQueued hex hg t h

theorem airflowCheck (hex : ∀ r, I r.fans → I (ex r).fans) (hg : S g) (t : Target) (h : I r.fans) :
    I (r.airflowCheck ex env g t).fans := by
  unfold FanRun.airflowCheck
  split
  · split
    · exact C.override hex hg t h
    · exact C.group hg (fun _ => rfl) h
  · exact C.enterQueued hex hg t h

theorem actOff (hex : ∀ r, I r.fans → I (ex r).fans) (hg : S g) (t : Target) (h : I r.fans) :
    I (r.actOff ex env g t).fans := by
  unfold FanRun.actOff
  split
  · exact C.group hg (fun _ => rfl) h
  · split
    · exact C.group hg (fun _ => rfl) h
    · exact C.airflowCheck hex hg t (C.group hg (fun _ => rfl) h)

theorem backToOff (hg : S g) (keep : Option Target) (h : I r.fans) : I (r.backToOff g keep).fans :=
  C.group hg (fun _ => rfl) (C.remove hg h)

theorem actWindmill (hex : ∀ r, I r.fans → I (ex r).fans) (hg : S g) (old t : Target) (h : I r.fans) :
    I (r.actWindmill ex env g old t).fans := by
  unfold FanRun.actWindmill
  split
  · exact C.backToOff hg _ h
  · split
    · exact C.backToOff hg _ h
    · split
      · split
        · exact C.group hg (fun _ => rfl) h
        · exact C.enterQueued hex hg t h
      · exact h

theorem actQueued (hex : ∀ r, I r.fans → I (ex r).fans) (hg : S g) (old t : Target) (h : I r.fans) :
    I (r.actQueued ex env g old t).fans := by
  unfold FanRun.actQueued
  split
  · exact C.backToOff hg _ h
  · split
    · exact C.backToOff hg _ h
    · split
      · exact C.airflowCheck hex hg t (C.remove hg h)
      · dsimp only
        split
        · exact hex _ (C.joinEntry hg (C.remove hg h))
        · split
          · refine hex _ ?_
            rw [FanRun.answer_fans]
            exact C.change hg rfl h
          · exact h

theorem actStarting (hex : ∀ r, I r.fans → I (ex r).fans) (hg : S g) (t : Target) (h : I r.fans) :
    I (r.actStarting ex env g t).fans := by
  unfold FanRun.actStarting
  dsimp only
  split
  · exact hex _ (C.group hg (fun _ => rfl) (C.stageDown hg h))
  · split
    · exact hex _ (C.group hg (fun _ => rfl) (C.stageDown hg h))
    · exact C.group hg (fun _ => rfl) h

theorem actStop (hex : ∀ r, I r.fans → I (ex r).fans) (hg : S g) (t : Target) (h : I r.fans) :
    I (r.actStop ex env g t).fans := by
  have hremoved : I (r.modFans fun F => F.removeEntry g).fans := C.remove hg h
  unfold FanRun.actStop
  dsimp only
  split
  · exact C.group hg (fun _ => rfl) hremoved
  · split
    · exact hex _ (C.enterStopping hg _ _ hremoved)
    · exact hex _ (C.enterStopping hg _ _ hremoved)

theorem actRunOn (hex : ∀ r, I r.fans → I (ex r).fans) (hg : S g) (t : Target) (h : I r.fans) :
    I (r.actRunOn ex env g t).fans := by
  have hcleared : I (r.modFan g fun f => { f with pending := none }).fans := C.group hg (fun _ => rfl) h
  unfold FanRun.actRunOn
  dsimp only
  split
  · split
    · exact hex _ (C.joinEntry hg hcleared)
    · split
      · exact hcleared
      · exact hex _ (C.joinEntry hg (C.remove hg hcleared))
  · split
    · exact hex _ (C.stageDown hg hcleared)
    · split
      · exact C.remove hg hcleared
      · exact hcleared

theorem actRunning (hex : ∀ r, I r.fans → I (ex r).fans) (hg : S g) (t : Target) (h : I r.fans) :
    I (r.actRunning ex env g t).fans := by
  unfold FanRun.actRunning
  split
  · exact C.actStop hex hg t h
  · exact C.actRunOn hex hg t h

theorem enterRunning (hex : ∀ r, I r.fans → I (ex r).fans) (hg : S g) (h : I r.fans) :
    I (r.enterRunning ex env g).fans := by
  have hran := hex (((r.modFans fun F => F.releaseSlot g).modFan g fun f =>
    { f with state := .running, start := none, runMin := Timer.seconds (env.config g).runMin }).raise
      .fanRunning g .info (256 * (r.fan g).stage + directionCode (r.fan g).direction))
    (C.group hg (fun _ => rfl) (C.releaseSlot h))
  unfold FanRun.enterRunning
  dsimp only
  split
  · exact hran
  · split
    · exact hran
    · exact C.actRunning hex hg _ (C.group hg (fun _ => rfl) hran)

theorem enterStarting (hex : ∀ r, I r.fans → I (ex r).fans) (hg : S g) (h : I r.fans) :
    I (r.enterStarting ex env g).fans := by
  have hstarted : I (r.modFan g fun f =>
      { f with state := .starting, stage := env.needed g f.presented, direction := f.presented.direction,
               fwd := f.presented.direction == .eastward, rev := f.presented.direction == .westward,
               high := env.needed g f.presented == 2, rest := none,
               start := Timer.seconds (env.config g).startTime }).fans := C.group hg (fun _ => rfl) h
  unfold FanRun.enterStarting
  dsimp only
  split
  · exact hstarted
  · exact C.enterRunning hex hg hstarted
  · exact hex _ (C.trip hg _ hstarted)
  · split
    · exact hex _ (C.trip hg _ (C.choices hstarted))
    · have hrunning := C.enterRunning hex hg (r := FanRun.modFans (fun F =>
        { F with choices := F.choices + 1 }) _) (C.choices hstarted)
      split
      · exact hex _ (C.trip hg _ hrunning)
      · exact hrunning

theorem grant (hex : ∀ r, I r.fans → I (ex r).fans) {e : StartEntry} (he : S e.group) (l : Leg)
    (h : I r.fans) : I (r.grant ex env e l).fans := by
  have hcharged : I (r.modFans fun F =>
      { (F.removeEntry e.group).charge env e l with slot := some (e.group, e.purpose) }).fans :=
    C.slot (C.charge he (C.remove he h))
  unfold FanRun.grant
  dsimp only
  split
  · exact C.enterStarting hex he hcharged
  · exact C.group he (fun _ => rfl) hcharged

theorem examineWith (k : Nat) : ∀ r : FanRun, I r.fans → I (r.examineWith env k).fans := by
  induction k with
  | zero => exact fun r h => h
  | succ k ih =>
    intro r h
    unfold FanRun.examineWith
    split
    · exact h
    · split
      · exact h
      next hmet => exact C.grant ih (C.queued h _ (Fans.firstMet_mem hmet).1) _ h

theorem examine (r : FanRun) (h : I r.fans) : I (r.examine env).fans := C.examineWith 8 r h

theorem enforceCap (hex : ∀ r, I r.fans → I (ex r).fans) (hg : S g) (h : I r.fans) :
    I (r.enforceCap ex env g).fans := by
  unfold FanRun.enforceCap
  dsimp only
  split
  · exact hex _ (C.stageDown hg h)
  · exact h

theorem act (hex : ∀ r, I r.fans → I (ex r).fans) (hg : S g) (old t : Target) (h : I r.fans) :
    I (r.act ex env g old t).fans := by
  unfold FanRun.act
  split
  · exact C.actOff hex hg t h
  · exact C.actWindmill hex hg old t h
  · exact C.actQueued hex hg old t h
  · exact C.actStarting hex hg t h
  · exact C.actRunning hex hg t h
  · exact C.group hg (fun _ => rfl) h
  · exact h
  · exact h

/-! ### Presentation and release, for a predicate that a presented target cannot break -/

theorem presentOne (hp : ∀ {F : Fans} {t : Target}, I F → I (F.modGroup g fun f => { f with presented := t }))
    (hg : S g) (h : I r.fans) : I (r.presentOne env g).fans := by
  unfold FanRun.presentOne
  dsimp only
  refine C.enforceCap C.examine hg ?_
  split
  · exact h
  · exact C.act C.examine hg _ _ (hp h)

theorem releaseWaiting (hg : S g) (t : Target) (h : I r.fans) : I (r.releaseWaiting env g t).fans := by
  unfold FanRun.releaseWaiting
  split
  · exact C.backToOff hg _ h
  · split
    · exact C.backToOff hg _ h
    · split
      · exact C.override (fun _ h => h) hg t h
      · split
        · exact h
        · exact C.enterQueued (fun _ h => h) hg t h

theorem releaseOne (hp : ∀ {F : Fans} {t : Target}, I F → I (F.modGroup g fun f => { f with presented := t }))
    (hg : S g) (h : I r.fans) : I (r.releaseOne env g).fans := by
  have hpresented : I (r.modFan g fun f => { f with presented := env.target g, pending := none }).fans := by
    have heq : r.fans.modGroup g (fun f => { f with presented := env.target g, pending := none }) =
        (r.fans.modGroup g fun f => { f with presented := env.target g }).modGroup g
          fun f => { f with pending := none } := by simp [Fans.modGroup, upd]
    change I (r.fans.modGroup g _)
    rw [heq]
    exact C.group hg (fun _ => rfl) (hp h)
  unfold FanRun.releaseOne
  dsimp only
  refine C.enforceCap (fun _ h => h) hg ?_
  split
  · exact C.releaseWaiting hg _ hpresented
  · exact C.act (fun _ h => h) hg _ _ hpresented

/-! ### The other steps of a group -/

theorem recheck (c : Fin 8) (hg : S g) (h : I r.fans) : I (r.recheck env c g).fans := by
  unfold FanRun.recheck
  split
  · exact C.enterQueued C.examine hg _ h
  · exact h

theorem runFeedback (v : Bool) (hg : S g) (h : I r.fans) : I (r.runFeedback env g v).fans := by
  unfold FanRun.runFeedback
  split
  · exact C.enterRunning C.examine hg h
  · exact C.examine _ (C.trip hg _ h)
  · exact h

theorem overload (v : Bool) (hg : S g) (h : I r.fans) : I (r.overload env g v).fans := by
  unfold FanRun.overload
  split
  · exact C.examine _ (C.trip hg _ h)
  · exact C.examine _ (C.trip hg _ h)
  · exact h

theorem localSwitch (v : Bool) (hg : S g) (h : I r.fans) : I (r.localSwitch env g v).fans := by
  unfold FanRun.localSwitch
  split
  · split
    · exact h
    · exact C.examine _ (C.lock hg h)
  · split
    · exact C.group hg (fun _ => rfl) h
    · exact h

theorem stopOnLeg (l : Leg) (hg : S g) (h : I r.fans) : I (r.stopOnLeg env l g).fans := by
  unfold FanRun.stopOnLeg
  dsimp only
  split
  · exact C.enterStopping hg _ _ h
  · exact h

theorem enterOff (hg : S g) (t : Target) (h : I r.fans) : I (r.enterOff env g t).fans := by
  have hoff : I (r.modFan g fun f =>
      { f with state := .off, rest := Timer.seconds (env.config g).restMin }).fans :=
    C.group hg (fun _ => rfl) h
  unfold FanRun.enterOff
  dsimp only
  split
  · exact hoff
  · exact C.actOff C.examine hg t hoff

theorem startExpired (hg : S g) (h : I r.fans) : I (r.startExpired env g).fans := by
  unfold FanRun.startExpired
  split
  · exact C.examine _ (C.trip hg _ h)
  · exact C.group hg (fun _ => rfl) h

theorem stageUpExpired (hg : S g) (h : I r.fans) : I (r.stageUpExpired env g).fans :=
  C.examine _ (C.releaseSlot (C.group (f := fun f => { f with stageUp := none }) hg (fun _ => rfl) h))

theorem coastExpired (hg : S g) (h : I r.fans) : I (r.coastExpired env g).fans := by
  have hidle : I (r.modFan g fun f => { f with coast := none }).fans := C.group hg (fun _ => rfl) h
  unfold FanRun.coastExpired
  dsimp only
  split
  · exact C.enterOff hg _ hidle
  · exact hidle

theorem restExpired (hg : S g) (h : I r.fans) : I (r.restExpired env g).fans := by
  have hidle : I (r.modFan g fun f => { f with rest := none }).fans := C.group hg (fun _ => rfl) h
  unfold FanRun.restExpired
  dsimp only
  split
  · split
    · exact hidle
    · exact C.actOff C.examine hg _ hidle
  · exact hidle

theorem runMinExpired (hg : S g) (h : I r.fans) : I (r.runMinExpired env g).fans := by
  have hidle : I (r.modFan g fun f => { f with runMin := none }).fans := C.group hg (fun _ => rfl) h
  unfold FanRun.runMinExpired
  dsimp only
  split
  · split
    · exact hidle
    · exact C.actRunning C.examine hg _ (C.group hg (fun _ => rfl) hidle)
  · exact hidle

theorem windmillExpired (hg : S g) (h : I r.fans) : I (r.windmillExpired env g).fans := by
  have hidle : I (r.modFan g fun f => { f with windmill := none }).fans := C.group hg (fun _ => rfl) h
  unfold FanRun.windmillExpired
  dsimp only
  split
  · exact C.override C.examine hg _ hidle
  · exact hidle

theorem tripReset (hg : S g) (h : I r.fans) : I (r.tripReset env g).fans := by
  have hreset : I (r.modFan g fun f => { f with tripCause := none }).fans := C.group hg (fun _ => rfl) h
  unfold FanRun.tripReset
  dsimp only
  split
  · exact C.group hg (fun _ => rfl) hreset
  · exact C.enterOff hg _ hreset

end FanClosed

/-! ### Predicates that every group keeps -/

namespace FanClosed

variable {env : FanEnv} {I : Fans → Prop} (C : FanClosed env (fun _ => True) I) {r : FanRun}
include C

theorem present
    (hp : ∀ {F : Fans} {g : Fin 4} {t : Target}, I F → I (F.modGroup g fun f => { f with presented := t }))
    (h : I r.fans) : I (r.present env).fans := by
  unfold FanRun.present
  split
  · exact h
  · exact foldl_fans_kept _ (fun _ => C.presentOne hp trivial) h

theorem release
    (hp : ∀ {F : Fans} {g : Fin 4} {t : Target}, I F → I (F.modGroup g fun f => { f with presented := t }))
    (h : I r.fans) : I (r.release env).fans :=
  C.examine _ (foldl_fans_kept _ (fun _ => C.releaseOne hp trivial) h)

/-- Every step of the groups, for a predicate that a leg's becoming available or not cannot break. -/
theorem fanOp {n : Node} {f : FanEnv → FanRun → FanRun} (hf : FanOp n f)
    (hl : ∀ {F : Fans} {l : Leg} {v : Bool}, I F → I (F.modLeg l fun x => { x with available := v }))
    (h : I r.fans) : I (f env r).fans := by
  cases hf with
  | examine => exact C.examine r h
  | recheckAll c => exact foldl_fans_kept _ (fun _ => C.recheck c trivial) h
  | runFeedback g v => exact C.runFeedback v trivial h
  | overload g v => exact C.overload v trivial h
  | localSwitch g v => exact C.localSwitch v trivial h
  | legRestored l => exact C.examine _ (hl h)
  | legLost l =>
    refine C.examine _ ?_
    have hstopped : I (groupIndices.foldl (fun r g => r.stopOnLeg env l g)
        (r.modFans fun F => F.modLeg l fun x => { x with available := false })).fans :=
      foldl_fans_kept _ (fun _ => C.stopOnLeg l trivial) (hl h)
    exact hstopped
  | legFirst l v => exact C.examine _ (hl h)
  | startExpired g => exact C.startExpired trivial h
  | stageUpExpired g _ => exact C.stageUpExpired trivial h
  | coastExpired g => exact C.coastExpired trivial h
  | restExpired g => exact C.restExpired trivial h
  | runMinExpired g => exact C.runMinExpired trivial h
  | windmillExpired g => exact C.windmillExpired trivial h
  | tripReset g _ => exact C.tripReset trivial h

end FanClosed

end Sys2Proof.Machine
end

section
/-!
What a step of the groups leaves of the supply account: the reserves of the zones that hold none (R80), and
the capacity and the availability of both legs. With the first, O8: the zone entries stay sound.
-/

namespace Sys2Proof.Machine

/-! ### What the supply operations leave -/

/-- A granted entry converts a reserve of its group's zone alone, which is held and on the chosen leg
(R81, R82). -/
theorem Fans.convertZone_some {F : Fans} {env : FanEnv} {e : StartEntry} {l : Leg} {z : Fin 32}
    (h : F.convertZone env e l = some z) :
    env.zoneHeld z = true ∧ F.reserves[z].leg = some l ∧ e.priority = .fire ∧
      (env.config e.group).zone = some z := by
  unfold Fans.convertZone at h
  split at h
  next rl a hpriority hheld =>
    split at h
    next hleg =>
      subst hleg
      unfold Fans.heldReserve at hheld
      rw [h] at hheld
      dsimp only at hheld
      split at hheld
      next hz =>
        split at hheld
        next hl =>
          cases hheld
          exact ⟨hz, hl, hpriority, h⟩
        next => cases hheld
      next => cases hheld
    next => cases h
  next => cases h

theorem Fans.modReserve_self (F : Fans) (z : Fin 32) (f : Reserve → Reserve) :
    (F.modReserve z f).reserves[z] = f F.reserves[z] := by
  simp [Fans.modReserve]

theorem Fans.modReserve_ne (F : Fans) {z y : Fin 32} (f : Reserve → Reserve) (h : z ≠ y) :
    (F.modReserve z f).reserves[y] = F.reserves[y] :=
  upd_ne _ _ _ _ h

theorem Fans.modGroup_self (F : Fans) (g : Fin 4) (f : Fan → Fan) :
    (F.modGroup g f).groups[g] = f F.groups[g] := by
  simp [Fans.modGroup]

theorem Fans.modGroup_ne (F : Fans) {g k : Fin 4} (f : Fan → Fan) (h : g ≠ k) :
    (F.modGroup g f).groups[k] = F.groups[k] :=
  upd_ne _ _ _ _ h

/-- A leg other than the one changed keeps its record. -/
theorem Fans.modLeg_ne (F : Fans) {l k : Leg} (f : LegRecord → LegRecord) (h : l ≠ k) :
    (F.modLeg l f).leg k = F.leg k := by
  cases l <;> cases k <;> [exact absurd rfl h; rfl; rfl; exact absurd rfl h]

/-- The reserves of the zones that are neither BINDING nor BOUND, and what is configured and read of the
legs in `W`, are those given. -/
structure Fans.Outside (env : FanEnv) (W : Leg → Prop) (F₀ F : Fans) : Prop where
  reserve : ∀ z : Fin 32, env.zoneHeld z = false → F.reserves[z] = F₀.reserves[z]
  leg : ∀ l, W l → (F.leg l).capacity = (F₀.leg l).capacity ∧ (F.leg l).available = (F₀.leg l).available

namespace Fans.Outside

variable {env : FanEnv} {W : Leg → Prop} {F₀ F : Fans}

theorem refl (env : FanEnv) (W : Leg → Prop) (F : Fans) : Fans.Outside env W F F :=
  ⟨fun _ _ => rfl, fun _ _ => ⟨rfl, rfl⟩⟩

theorem modReserve (h : Fans.Outside env W F₀ F) {z : Fin 32} (hz : env.zoneHeld z = true)
    (f : Reserve → Reserve) : Fans.Outside env W F₀ (F.modReserve z f) where
  reserve y hy := by
    have hne : z ≠ y := fun e => by simp [e, hy] at hz
    rw [Fans.modReserve_ne _ _ hne]
    exact h.reserve y hy
  leg l hl := by
    rw [Fans.modReserve_leg]
    exact h.leg l hl

theorem modLeg (h : Fans.Outside env W F₀ F) (l : Leg) {f : LegRecord → LegRecord}
    (hf : ∀ r, (f r).capacity = r.capacity ∧ (f r).available = r.available) :
    Fans.Outside env W F₀ (F.modLeg l f) where
  reserve z hz := by
    rw [Fans.modLeg_reserves]
    exact h.reserve z hz
  leg k hl := by
    by_cases hk : l = k
    · subst hk
      rw [Fans.modLeg_leg, (hf _).1, (hf _).2]
      exact h.leg l hl
    · rw [Fans.modLeg_ne _ _ hk]
      exact h.leg k hl

theorem modGroup (h : Fans.Outside env W F₀ F) (g : Fin 4) (f : Fan → Fan) :
    Fans.Outside env W F₀ (F.modGroup g f) where
  reserve := h.reserve
  leg l hl := by
    rw [Fans.modGroup_leg]
    exact h.leg l hl

theorem charge (h : Fans.Outside env W F₀ F) (e : StartEntry) (l : Leg) :
    Fans.Outside env W F₀ (F.charge env e l) := by
  unfold Fans.charge
  dsimp only
  refine modGroup (modLeg ?_ l (by simp)) _ _
  split
  next z hz =>
    obtain ⟨hheld, -⟩ := Fans.convertZone_some hz
    exact modLeg (modReserve h hheld _) l (by simp)
  next => exact h

theorem refill (h : Fans.Outside env W F₀ F) (z : Option (Fin 32)) (l : Leg) (a : Nat) :
    Fans.Outside env W F₀ (F.refill env z l a) := by
  unfold Fans.refill
  split
  · exact h
  · dsimp only
    split
    next hz => exact modLeg (modReserve h hz.1 _) l (by simp)
    next => exact h

theorem returnDraw (h : Fans.Outside env W F₀ F) (g : Fin 4) : Fans.Outside env W F₀ (F.returnDraw env g) := by
  unfold Fans.returnDraw
  dsimp only
  split
  · exact h
  · exact modGroup (refill (modLeg h _ (by simp)) _ _ _) _ _

theorem returnStage (h : Fans.Outside env W F₀ F) (g : Fin 4) : Fans.Outside env W F₀ (F.returnStage env g) := by
  unfold Fans.returnStage
  dsimp only
  split
  · exact h
  · exact modGroup (refill (modLeg h _ (by simp)) _ _ _) _ _

/-- No change of the groups touches these. -/
theorem closed (env : FanEnv) (W : Leg → Prop) (F₀ : Fans) :
    FanClosed env (fun _ => True) (Fans.Outside env W F₀) where
  group _ _ h := modGroup h _ _
  remove _ h := ⟨h.reserve, h.leg⟩
  join _ h := ⟨h.reserve, h.leg⟩
  change _ _ h := ⟨h.reserve, h.leg⟩
  slot h := ⟨h.reserve, h.leg⟩
  choices h := ⟨h.reserve, h.leg⟩
  charge _ h := charge h _ _
  returnDraw _ h := returnDraw h _
  returnStage _ h := returnStage h _
  queued _ _ _ := trivial

end Fans.Outside

/-! ### The zone entries -/

/-- A sound entry stays sound under a change that keeps its state, its forward, its saved values and its
timers running, as long as its record waits in an active entry. -/
theorem Zone.Sound.of_not_free {e : Zone} {r : Reserve} (hstate : e.state ≠ .free)
    (hforward : e.forward = true → e.state = .bound)
    (hside : e.savedInputSide.isSome = true ↔ e.state = .binding ∧ e.boundBefore = true)
    (hsaved : e.savedForward.isSome = true ↔ e.state = .binding ∧ e.boundBefore = true)
    (hwait : e.bindWait.isSome = true → e.state = .binding)
    (hrecord : e.record.isSome = true → e.active = true ∧ e.waiting = true) : e.Sound r :=
  ⟨fun h => absurd h hstate, hforward, hside, hsaved, hwait, hrecord⟩

/-- The FREE values are sound without a reserve (R136). -/
theorem Zone.freed_sound (e : Zone) : e.freed.Sound {} := by
  simp [Zone.Sound, Zone.freed]

theorem Zone.default_sound : Zone.Sound {} {} := Zone.freed_sound {}

theorem Zone.Sound.tick {e : Zone} {r : Reserve} (h : e.Sound r) : e.tick.Sound r := by
  obtain ⟨hfree, hforward, hside, hsaved, hwait, hrecord⟩ := h
  refine ⟨fun hstate => ?_, hforward, hside, hsaved, ?_, ?_⟩
  · obtain ⟨heq, hreserve⟩ := hfree hstate
    refine ⟨?_, hreserve⟩
    rw [heq]
    rfl
  · simpa [Zone.tick, Timer.tick] using hwait
  · cases hr : e.record <;> simp_all [Zone.tick, Zone.active, Zone.waiting, Timer.tick]

/-- A lapse note stands beside the entry (R160). -/
theorem Zone.Sound.lapseNote {e : Zone} {r : Reserve} (h : e.Sound r) (x : Option (Byte × Side)) :
    Zone.Sound { e with lapseNote := x } r := by
  obtain ⟨hfree, hrest⟩ := h
  refine ⟨fun hstate => ?_, hrest⟩
  obtain ⟨heq, hreserve⟩ := hfree hstate
  refine ⟨?_, hreserve⟩
  rw [heq]
  rfl

/-- An entry that is not FREE may take a record that waits while the entry is active (R143, R149). -/
theorem Zone.Sound.record {e : Zone} {r : Reserve} (h : e.Sound r) {x : Option Record}
    (hx : ∀ k ∈ x, e.active = true ∧ k.ackWait.isSome = true) : Zone.Sound { e with record := x } r := by
  obtain ⟨hfree, hforward, hside, hsaved, hwait, -⟩ := h
  refine ⟨fun hstate => ?_, hforward, hside, hsaved, hwait, fun hsome => ?_⟩
  · cases x with
    | none =>
      obtain ⟨heq, hreserve⟩ := hfree hstate
      refine ⟨?_, hreserve⟩
      rw [heq]
      rfl
    | some k =>
      have hactive := (hx k rfl).1
      have hstate' : e.state = .free := hstate
      simp [Zone.active, hstate'] at hactive
  · obtain ⟨k, hk⟩ := Option.isSome_iff_exists.1 hsome
    obtain ⟨hactive, hack⟩ := hx k hk
    exact ⟨hactive, by simpa [Zone.waiting, show x = some k from hk] using hack⟩

theorem Zone.Sound.applyOrder {e : Zone} {r : Reserve} (h : e.Sound r) (hbound : e.state = .bound)
    (now : Nat) (o : OrderBody) : (e.applyOrder now o).Sound r := by
  obtain ⟨-, hrest⟩ := h
  exact ⟨fun hfree => by simp [Zone.applyOrder, hbound] at hfree, hrest⟩

/-- The record of a sound entry that is not replaced but for its outcomes waits on (R147). -/
theorem Zone.Sound.relay {e : Zone} {r : Reserve} {k k' : Record} (h : e.Sound r) (hk : e.record = some k)
    (hack : k'.ackWait = k.ackWait) : Zone.Sound { e with record := some k' } r := by
  obtain ⟨-, -, -, -, -, hrecord⟩ := id h
  obtain ⟨hactive, hwaiting⟩ := hrecord (by rw [hk]; rfl)
  refine h.record fun x hx => ⟨hactive, ?_⟩
  cases hx
  simpa [Zone.waiting, hk, hack] using hwaiting

/-- A FREE or BOUND entry becomes BOUND at the target of a BIND (R156). -/
theorem Zone.Sound.boundAtTarget {e : Zone} {r : Reserve} (h : e.Sound r)
    (hstate : e.state = .free ∨ e.state = .bound) (s : Side) (tag : Byte) (here : Bool) (r' : Reserve) :
    (e.boundAtTarget s tag here).Sound r' := by
  obtain ⟨hfree, -, hside, hsaved, hwait, hrecord⟩ := h
  obtain hstate | hstate := hstate
  · rw [(hfree hstate).1]
    simp [Zone.Sound, Zone.boundAtTarget, Zone.freed]
  · clear hfree
    refine Zone.Sound.of_not_free ?_ ?_ ?_ ?_ ?_ ?_ <;>
      simp_all [Zone.boundAtTarget, Zone.active, Zone.waiting]

/-- A FREE or BOUND entry enters BINDING (R155). -/
theorem Zone.Sound.enterBinding {e : Zone} {r : Reserve} (h : e.Sound r)
    (hstate : e.state = .free ∨ e.state = .bound) (s : Side) (tag : Byte) (here : Bool) (wait : Nat)
    (r' : Reserve) : (e.enterBinding s tag here wait).Sound r' := by
  obtain ⟨hfree, -, -, -, -, hrecord⟩ := h
  obtain hstate | hstate := hstate
  · rw [(hfree hstate).1]
    simp [Zone.Sound, Zone.enterBinding, Zone.freed]
  · clear hfree
    refine Zone.Sound.of_not_free ?_ ?_ ?_ ?_ ?_ ?_ <;>
      simp_all [Zone.enterBinding, Zone.active, Zone.waiting]

/-- An entry that was BOUND before is BOUND again (R158). -/
theorem Zone.Sound.restored {e : Zone} {r : Reserve} (h : e.Sound r) : e.restored.Sound r := by
  obtain ⟨-, -, -, -, -, hrecord⟩ := h
  refine Zone.Sound.of_not_free ?_ ?_ ?_ ?_ ?_ ?_ <;>
    simp_all [Zone.restored, Zone.active, Zone.waiting]

/-- A confirmed entry is BOUND (R157). -/
theorem Zone.Sound.confirmed {e : Zone} {r : Reserve} (h : e.Sound r) : e.confirmed.Sound r := by
  obtain ⟨-, -, -, -, -, hrecord⟩ := h
  refine Zone.Sound.of_not_free ?_ ?_ ?_ ?_ ?_ ?_ <;>
    simp_all [Zone.confirmed, Zone.active, Zone.waiting]

theorem Zone.Sound.noForward {e : Zone} {r : Reserve} (h : e.Sound r) (hbound : e.state = .bound) :
    Zone.Sound { e with forward := false } r := by
  obtain ⟨-, -, hside, hsaved, hwait, hrecord⟩ := h
  exact Zone.Sound.of_not_free (by simp [hbound]) (by simp) hside hsaved hwait hrecord

/-! ### The node -/

/-- A step of the groups touches no reserve of a FREE entry. -/
theorem Node.ranFans_zonesSound {n : Node} {f : FanEnv → FanRun → FanRun}
    (hf : Fans.Outside n.fanEnv (fun _ => False) n.fans (n.fanRun f).fans) (h : n.ZonesSound) :
    (n.ranFans f).ZonesSound := by
  intro z
  obtain ⟨hfree, hrest⟩ := h z
  refine ⟨fun hstate => ?_, hrest⟩
  obtain ⟨heq, hreserve⟩ := hfree hstate
  have hstate' : n.zones[z].state = .free := hstate
  have hheld : n.fanEnv.zoneHeld z = false := by
    change (n.zones[z].state != .free) = false
    rw [hstate']
    rfl
  exact ⟨heq, (hf.reserve z hheld).trans hreserve⟩

/-- A change of one entry leaves the others. -/
theorem Node.modZone_zonesSound {n : Node} {z : Fin 32} {f : Zone → Zone} (h : n.ZonesSound)
    (hf : (f n.zones[z]).Sound n.fans.reserves[z]) : (n.modZone z f).ZonesSound := by
  intro y
  by_cases hy : z = y
  · subst hy
    rw [Node.modZone_self]
    exact hf
  · rw [Node.modZone_zones, show (upd n.zones z f)[y] = n.zones[y] from upd_ne _ _ _ _ hy]
    exact h y

/-- A change of one entry and its reserve leaves the others (R85). -/
theorem Node.modZone_account_zonesSound {n : Node} {z : Fin 32} {f : Zone → Zone} {F : Fans}
    (h : n.ZonesSound) (hother : ∀ y : Fin 32, z ≠ y → F.reserves[y] = n.fans.reserves[y])
    (hf : (f n.zones[z]).Sound F.reserves[z]) : (Node.modZone { n with fans := F } z f).ZonesSound := by
  intro y
  by_cases hy : z = y
  · subst hy
    rw [Node.modZone_self]
    exact hf
  · rw [Node.modZone_zones, show (upd n.zones z f)[y] = n.zones[y] from upd_ne _ _ _ _ hy]
    change (n.zones[y]).Sound F.reserves[y]
    rw [hother y hy]
    exact h y

/-- Releasing a reserve leaves the others (R85). -/
theorem Fans.release_ne (F : Fans) {z y : Fin 32} (h : z ≠ y) :
    (F.release z).reserves[y] = F.reserves[y] := by
  unfold Fans.release
  dsimp only
  rw [Fans.modReserve_ne _ _ h]
  split
  · rw [Fans.modLeg_reserves]
  · rfl

/-- Taking a reserve leaves the others (R85). -/
theorem Fans.reserve_ne {F G : Fans} {z y : Fin 32} {a : Nat} (hG : F.reserve z a = some G) (h : z ≠ y) :
    G.reserves[y] = F.reserves[y] := by
  obtain ⟨-, rfl⟩ | ⟨l, -, -, rfl⟩ := Fans.reserve_cases hG
  · exact Fans.modReserve_ne _ _ h
  · rw [Fans.modLeg_reserves, Fans.modReserve_ne _ _ h]

/-- The account of a bind changes the reserve of its own zone alone, and only where the entry is FREE. -/
theorem Node.BindAccount.reserve_ne {n : Node} {z y : Fin 32} {F : Fans} (hF : n.BindAccount z F)
    (h : z ≠ y) : F.reserves[y] = n.fans.reserves[y] := by
  obtain ⟨-, hF⟩ | ⟨-, rfl⟩ := hF
  · exact Fans.reserve_ne hF h
  · rfl

/-- A bind that has passed its checks meets a FREE or a BOUND entry (R153). -/
theorem Node.BindAccount.state {n : Node} {z : Fin 32} {F : Fans} (hF : n.BindAccount z F) :
    n.zones[z].state = .free ∨ n.zones[z].state = .bound := by
  obtain ⟨hfree, -⟩ | ⟨hbound, -⟩ := hF
  · exact .inl hfree
  · exact .inr hbound

/-- After every reserve is released none is left. -/
theorem Fans.release_all (F : Fans) (z : Fin 32) :
    (zoneIndices.foldl Fans.release F).reserves[z] = {} := by
  have key : ∀ (l : List (Fin 32)) (F : Fans), z ∈ l ∨ F.reserves[z] = {} →
      (l.foldl Fans.release F).reserves[z] = {} := by
    intro l
    induction l with
    | nil => simp
    | cons y l ih =>
      intro F h
      refine ih _ ?_
      by_cases hy : y = z
      · subst hy
        exact .inr (Fans.release_self F y)
      · rw [Fans.release_ne F hy]
        simpa [Ne.symm hy] using h
  exact key _ _ (.inl (by simp [zoneIndices]))

theorem lineKept_zones : LineKept fun n => n.ZonesSound where
  raise r h := by
    intro z
    rw [Node.raise_zones, Node.raise_fans]
    exact h z
  side _ h := h
  run _ _ h := h

theorem zones_kept : Kept (fun n => n.ZonesSound) fun n => n.ZonesSound where
  clean := lineKept_zones
  dirty := lineKept_zones
  weaken h := h
  quiet h := h
  drained h := h
  fans {n f} hf h := Node.ranFans_zonesSound
    ((Fans.Outside.closed n.fanEnv (fun _ => False) n.fans).fanOp hf
      (fun h => ⟨fun z hz => by rw [Fans.modLeg_reserves]; exact h.reserve z hz, fun _ => False.elim⟩)
      (.refl _ _ _)) h
  examine {n} h := Node.ranFans_zonesSound
    ((Fans.Outside.closed n.fanEnv (fun _ => False) n.fans).examine _ (.refl _ _ _)) h
  present {n} h := Node.ranFans_zonesSound
    ((Fans.Outside.closed n.fanEnv (fun _ => False) n.fans).present (fun h => h.modGroup _ _)
      (.refl _ _ _)) h
  start {n} _ h := Node.ranFans_zonesSound (n := { n with runState := .operational })
    ((Fans.Outside.closed _ (fun _ => False) n.fans).release (fun h => h.modGroup _ _) (.refl _ _ _)) h
  door _ h := h
  doorConfig _ _ h := h
  demand _ _ h := h
  orderTarget _ _ _ h := h
  config _ _ h := h
  capacity {n l c} _ h := fun z => by
    change (n.zones[z]).Sound (Fans.modLeg n.fans l _).reserves[z]
    rw [Fans.modLeg_reserves]
    exact h z
  applyOrder now hbound _ h := Node.modZone_zonesSound h ((h _).applyOrder hbound now _)
  record hx h := Node.modZone_zonesSound h ((h _).record hx)
  relay hr hack h := Node.modZone_zonesSound h ((h _).relay hr hack)
  free {n} z h := Node.modZone_account_zonesSound h (fun y hy => Fans.release_ne _ hy) (by
    rw [Fans.release_self]
    exact Zone.freed_sound _)
  bindTarget s tag here hF h := Node.modZone_account_zonesSound h (fun _ hy => hF.reserve_ne hy)
    ((h _).boundAtTarget hF.state s tag here _)
  bindEnter s tag here wait hF h := Node.modZone_account_zonesSound h (fun _ hy => hF.reserve_ne hy)
    ((h _).enterBinding hF.state s tag here wait _)
  restored _ _ h := Node.modZone_zonesSound h (h _).restored
  confirmed _ h := Node.modZone_zonesSound h (h _).confirmed
  reconfirmed _ _ h := Node.modZone_zonesSound h (h _).confirmed
  lapseNote z x h := Node.modZone_zonesSound h ((h z).lapseNote x)
  noForward hbound h := Node.modZone_zonesSound h ((h _).noForward hbound)
  count h := fun z => by simpa [Node.countTick] using (h z).tick
  restart {n} h := fun z => by
    change Zone.Sound ((Node.reset n.strap).zones[z]) (zoneIndices.foldl Fans.release n.fans).reserves[z]
    rw [Fans.release_all]
    simpa [Node.reset] using Zone.default_sound
  powerOn _ _ := fun z => by
    simpa [Node.restarted, Node.reset, Fans.reset] using Zone.default_sound

/-- Settles O8: what the elementary changes keep, a step keeps. -/
theorem zonesSoundKept : Obligations.ZonesSoundKept := by
  unfold Obligations.ZonesSoundKept
  intro s t h hstep
  exact zones_kept.step hstep h

end Sys2Proof.Machine
end

section
/-!
Settles O10: what each request to the supply unit does to the account of a leg (R77 to R85).
-/

namespace Sys2Proof.Machine

/-! ### The sums of an account -/

/-- A sum of which one term changes. -/
theorem sum_map_changed {k : Nat} {l : List (Fin k)} (hl : l.Nodup) {i : Fin k} (hi : i ∈ l)
    {f g : Fin k → Nat} (h : ∀ j, i ≠ j → g j = f j) :
    (l.map g).sum + f i = (l.map f).sum + g i := by
  induction l with
  | nil => cases hi
  | cons x l ih =>
    obtain ⟨hx, hl⟩ := List.nodup_cons.1 hl
    by_cases hix : i = x
    · have hrest : l.map g = l.map f := List.map_congr_left fun j hj => h j fun e => hx (hix ▸ e ▸ hj)
      simp only [List.map_cons, List.sum_cons, hrest, ← hix]
      omega
    · have hrest := ih hl ((List.mem_cons.1 hi).resolve_left hix)
      simp only [List.map_cons, List.sum_cons, h x hix]
      omega

/-- What a group draws from a leg. -/
def Fan.drawOn (f : Fan) (l : Leg) : Nat := if f.leg = some l then f.draw else 0

/-- What remains of a reserve on a leg. -/
def Reserve.remainingOn (r : Reserve) (l : Leg) : Nat := if r.leg = some l then r.remaining else 0

theorem Fan.drawOn_of_leg {f : Fan} {l : Leg} (h : f.leg = some l) (k : Leg) :
    f.drawOn k = if k = l then f.draw else 0 := by
  simp [Fan.drawOn, h, eq_comm]

theorem Fan.drawOn_of_none {f : Fan} (h : f.leg = none) (k : Leg) : f.drawOn k = 0 := by
  simp [Fan.drawOn, h]

theorem Reserve.remainingOn_of_leg {r : Reserve} {l : Leg} (h : r.leg = some l) (k : Leg) :
    r.remainingOn k = if k = l then r.remaining else 0 := by
  simp [Reserve.remainingOn, h, eq_comm]

theorem Reserve.remainingOn_of_none {r : Reserve} (h : r.leg = none) (k : Leg) : r.remainingOn k = 0 := by
  simp [Reserve.remainingOn, h]

/-- The draws on a leg after a change of one group. -/
theorem Fans.drawsOn_modGroup (F : Fans) (g : Fin 4) (f : Fan → Fan) (l : Leg) :
    (F.modGroup g f).drawsOn l + F.groups[g].drawOn l = F.drawsOn l + (f F.groups[g]).drawOn l := by
  have h := sum_map_changed (l := groupIndices) (i := g) (f := fun k => F.groups[k].drawOn l)
    (g := fun k => (F.modGroup g f).groups[k].drawOn l) (by decide) (by revert g; decide)
    fun k hk => by rw [Fans.modGroup_ne _ _ hk]
  rw [Fans.modGroup_self] at h
  exact h

/-- The reserves on a leg after a change of one of them. -/
theorem Fans.reservesOn_modReserve (F : Fans) (z : Fin 32) (f : Reserve → Reserve) (l : Leg) :
    (F.modReserve z f).reservesOn l + F.reserves[z].remainingOn l =
      F.reservesOn l + (f F.reserves[z]).remainingOn l := by
  have h := sum_map_changed (l := zoneIndices) (i := z) (f := fun k => F.reserves[k].remainingOn l)
    (g := fun k => (F.modReserve z f).reserves[k].remainingOn l) (List.nodup_finRange 32)
    (List.mem_finRange z) fun k hk => by rw [Fans.modReserve_ne _ _ hk]
  rw [Fans.modReserve_self] at h
  exact h

/-- A group draws no more from a leg than all groups do. -/
theorem Fans.drawOn_le (F : Fans) (g : Fin 4) (l : Leg) : F.groups[g].drawOn l ≤ F.drawsOn l := by
  have h := F.drawsOn_modGroup g (fun f => { f with leg := none }) l
  rw [Fan.drawOn_of_none (f := { F.groups[g] with leg := none }) rfl] at h
  omega

theorem Fans.remainingOn_le (F : Fans) (z : Fin 32) (l : Leg) :
    F.reserves[z].remainingOn l ≤ F.reservesOn l := by
  have h := F.reservesOn_modReserve z (fun _ => {}) l
  rw [Reserve.remainingOn_of_none (r := {}) rfl] at h
  omega

theorem Fans.drawsOn_congr {F G : Fans} (h : F.groups = G.groups) (l : Leg) : F.drawsOn l = G.drawsOn l := by
  rw [Fans.drawsOn, Fans.drawsOn, h]

theorem Fans.reservesOn_congr {F G : Fans} (h : F.reserves = G.reserves) (l : Leg) :
    F.reservesOn l = G.reservesOn l := by
  rw [Fans.reservesOn, Fans.reservesOn, h]

/-! ### Elementary changes of a balanced account -/

namespace Fans

variable {F : Fans} (hF : ∀ l, F.Balanced l)
include hF

/-- A draw that grows by what its leg is charged. -/
theorem Balanced.draw {g : Fin 4} {l : Leg} {c : Nat} {f : Fan → Fan}
    (hdraw : ∀ k, (f F.groups[g]).drawOn k = F.groups[g].drawOn k + if k = l then c else 0)
    (hroom : (F.leg l).drawn + (F.leg l).reserved + c ≤ (F.leg l).capacity) (k : Leg) :
    ((F.modLeg l fun r => { r with drawn := r.drawn + c }).modGroup g f).Balanced k := by
  obtain ⟨hdrawn, hreserved, hcapacity⟩ := hF k
  have hchange := (F.modLeg l fun r => { r with drawn := r.drawn + c }).drawsOn_modGroup g f k
  rw [drawsOn_congr (F.modLeg_groups l _), F.modLeg_groups, hdraw k] at hchange
  have hreserves : ((F.modLeg l fun r => { r with drawn := r.drawn + c }).modGroup g f).reservesOn k =
      F.reservesOn k := reservesOn_congr (by simp) k
  unfold Balanced
  rw [hreserves, modGroup_leg]
  by_cases hk : l = k
  · subst hk
    rw [modLeg_leg]
    rw [if_pos rfl] at hchange
    refine ⟨?_, hreserved, ?_⟩ <;> dsimp only <;> omega
  · rw [modLeg_ne _ _ hk]
    rw [if_neg (Ne.symm hk)] at hchange
    exact ⟨by omega, hreserved, hcapacity⟩

/-- A draw that shrinks by what its leg is given back. -/
theorem Balanced.undraw {g : Fin 4} {l : Leg} {c : Nat} {f : Fan → Fan}
    (hdraw : ∀ k, (f F.groups[g]).drawOn k + (if k = l then c else 0) = F.groups[g].drawOn k) (k : Leg) :
    ((F.modLeg l fun r => { r with drawn := r.drawn - c }).modGroup g f).Balanced k := by
  obtain ⟨hdrawn, hreserved, hcapacity⟩ := hF k
  have hle := F.drawOn_le g k
  have hchange := (F.modLeg l fun r => { r with drawn := r.drawn - c }).drawsOn_modGroup g f k
  rw [drawsOn_congr (F.modLeg_groups l _), F.modLeg_groups] at hchange
  have hk' := hdraw k
  have hreserves : ((F.modLeg l fun r => { r with drawn := r.drawn - c }).modGroup g f).reservesOn k =
      F.reservesOn k := reservesOn_congr (by simp) k
  unfold Balanced
  rw [hreserves, modGroup_leg]
  by_cases hk : l = k
  · subst hk
    rw [modLeg_leg]
    rw [if_pos rfl] at hk'
    refine ⟨?_, hreserved, ?_⟩ <;> dsimp only <;> omega
  · rw [modLeg_ne _ _ hk]
    rw [if_neg (Ne.symm hk)] at hk'
    exact ⟨by omega, hreserved, hcapacity⟩

/-- A change of a group that keeps what it draws. -/
theorem Balanced.group {g : Fin 4} {f : Fan → Fan}
    (hdraw : ∀ k, (f F.groups[g]).drawOn k = F.groups[g].drawOn k) (k : Leg) :
    (F.modGroup g f).Balanced k := by
  obtain ⟨hdrawn, hreserved, hcapacity⟩ := hF k
  have hchange := F.drawsOn_modGroup g f k
  rw [hdraw k] at hchange
  unfold Balanced
  rw [modGroup_leg]
  exact ⟨by omega, hreserved, hcapacity⟩

/-- A reserve that changes together with the reserved current of its leg. -/
theorem Balanced.setReserve {z : Fin 32} {l : Leg} {f : Reserve → Reserve} {b : LegRecord → Nat}
    (hother : ∀ k, l ≠ k → (f F.reserves[z]).remainingOn k = F.reserves[z].remainingOn k)
    (hleg : b (F.leg l) + F.reserves[z].remainingOn l =
      (F.leg l).reserved + (f F.reserves[z]).remainingOn l)
    (hroom : (F.leg l).drawn + b (F.leg l) ≤ (F.leg l).capacity) (k : Leg) :
    ((F.modReserve z f).modLeg l fun r => { r with reserved := b r }).Balanced k := by
  obtain ⟨hdrawn, hreserved, hcapacity⟩ := hF k
  have hchange := F.reservesOn_modReserve z f k
  have hdraws : ((F.modReserve z f).modLeg l fun r => { r with reserved := b r }).drawsOn k =
      F.drawsOn k := drawsOn_congr (by simp) k
  have hreserves : ((F.modReserve z f).modLeg l fun r => { r with reserved := b r }).reservesOn k =
      (F.modReserve z f).reservesOn k := reservesOn_congr (by simp) k
  unfold Balanced
  rw [hdraws, hreserves]
  by_cases hk : l = k
  · subst hk
    rw [modLeg_leg, modReserve_leg]
    refine ⟨hdrawn, ?_, hroom⟩
    dsimp only
    omega
  · rw [modLeg_ne _ _ hk, modReserve_leg]
    rw [hother k hk] at hchange
    exact ⟨hdrawn, by omega, hcapacity⟩

/-- A reserve that stands for nothing on either leg, before and after. -/
theorem Balanced.emptyReserve {z : Fin 32} {f : Reserve → Reserve}
    (hsame : ∀ k, (f F.reserves[z]).remainingOn k = F.reserves[z].remainingOn k) (k : Leg) :
    (F.modReserve z f).Balanced k := by
  obtain ⟨hdrawn, hreserved, hcapacity⟩ := hF k
  have hchange := F.reservesOn_modReserve z f k
  rw [hsame k] at hchange
  unfold Balanced
  rw [modReserve_leg]
  exact ⟨hdrawn, by omega, hcapacity⟩

/-! ### The requests -/

/-- A reserve is taken (R85). -/
theorem Balanced.reserve {z : Fin 32} {a : Nat} {G : Fans} (hz : F.reserves[z] = {})
    (hG : F.reserve z a = some G) (k : Leg) : G.Balanced k := by
  obtain ⟨-, rfl⟩ | ⟨l, -, hcover, rfl⟩ := Fans.reserve_cases hG
  · exact Balanced.emptyReserve hF (fun k => by rw [hz]) k
  · obtain ⟨-, hfree⟩ := Fans.coveringLeg_some hcover
    obtain ⟨-, -, hcapacity⟩ := hF l
    unfold LegRecord.free at hfree
    refine Balanced.setReserve hF (b := fun r => r.reserved + a) (fun k hk => ?_) ?_ (by omega) k
    · rw [hz, Reserve.remainingOn_of_leg (l := l) rfl, if_neg (Ne.symm hk), Reserve.remainingOn_of_none rfl]
    · rw [hz, Reserve.remainingOn_of_leg (l := l) (r := { leg := some l, original := a, remaining := a }) rfl,
        if_pos rfl, Reserve.remainingOn_of_none rfl]
      rfl

/-- A reserve is released (R85). -/
theorem Balanced.release (z : Fin 32) (k : Leg) : (F.release z).Balanced k := by
  have hempty : ∀ k, Reserve.remainingOn {} k = 0 := fun k => Reserve.remainingOn_of_none rfl k
  unfold Fans.release
  dsimp only
  split
  next l hl =>
    have hcomm : (F.modLeg l fun x => { x with reserved := x.reserved - F.reserves[z].remaining }).modReserve
        z (fun _ => { leg := none, original := 0, remaining := 0 }) =
        (F.modReserve z fun _ => { leg := none, original := 0, remaining := 0 }).modLeg l
          fun x => { x with reserved := x.reserved - F.reserves[z].remaining } := by cases l <;> rfl
    have hremaining : F.reserves[z].remainingOn l = F.reserves[z].remaining := if_pos hl
    have hle := F.remainingOn_le z l
    obtain ⟨-, hreserved, hcapacity⟩ := hF l
    rw [hcomm]
    refine Balanced.setReserve hF (b := fun r => r.reserved - F.reserves[z].remaining)
      (fun k hk => ?_) ?_ (by omega) k
    · rw [hempty, Reserve.remainingOn_of_leg hl, if_neg (Ne.symm hk)]
    · rw [hempty]
      omega
  next hl =>
    refine Balanced.emptyReserve hF (fun k => ?_) k
    rw [hempty, Reserve.remainingOn_of_none hl]

/-- A part of a reserve becomes free current, to be drawn (R81). -/
theorem Balanced.convert {z : Fin 32} {l : Leg} {a : Nat} (hl : F.reserves[z].leg = some l)
    (ha : a ≤ F.reserves[z].remaining) (k : Leg) : (F.convert z l a).Balanced k := by
  have hremaining : F.reserves[z].remainingOn l = F.reserves[z].remaining := if_pos hl
  have hle := F.remainingOn_le z l
  obtain ⟨-, hreserved, hcapacity⟩ := hF l
  refine Balanced.setReserve hF (b := fun r => r.reserved - a) (fun k hk => ?_) ?_ (by omega) k
  · rw [Reserve.remainingOn_of_leg hl, Reserve.remainingOn_of_leg (by exact hl), if_neg (Ne.symm hk),
      if_neg (Ne.symm hk)]
  · rw [Reserve.remainingOn_of_leg hl, Reserve.remainingOn_of_leg (by exact hl), if_pos rfl, if_pos rfl]
    dsimp only
    omega

/-- A returned amount refills the reserve it was converted from (R84). -/
theorem Balanced.refill {env : FanEnv} {z : Option (Fin 32)} {l : Leg} {a : Nat}
    (hroom : (F.leg l).drawn + (F.leg l).reserved + a ≤ (F.leg l).capacity) (k : Leg) :
    (F.refill env z l a).Balanced k := by
  unfold Fans.refill
  split
  · exact hF k
  next z =>
    dsimp only
    split
    next h =>
      refine Balanced.setReserve hF
        (b := fun r => r.reserved + min a (F.reserves[z].original - F.reserves[z].remaining))
        (fun k hk => ?_) ?_ (by omega) k
      · rw [Reserve.remainingOn_of_leg h.2, Reserve.remainingOn_of_leg (by exact h.2),
          if_neg (Ne.symm hk), if_neg (Ne.symm hk)]
      · rw [Reserve.remainingOn_of_leg h.2, Reserve.remainingOn_of_leg (by exact h.2), if_pos rfl,
          if_pos rfl]
        dsimp only
        omega
    next => exact hF k

end Fans

/-- What a granted entry may convert on the chosen leg (R81, R82). -/
def Fans.convertible (F : Fans) (env : FanEnv) (e : StartEntry) (l : Leg) : Nat :=
  match F.convertZone env e l with
  | some z => F.reserves[z].remaining
  | none => 0

/-- A FIRE entry converts the reserve its zone holds on the chosen leg. -/
theorem Fans.convertible_fire {F : Fans} {env : FanEnv} {e : StartEntry} {l : Leg} {a : Nat}
    (hpriority : e.priority = .fire) (hheld : F.heldReserve env (env.config e.group).zone = some (l, a)) :
    F.convertible env e l = a := by
  obtain ⟨z, hz⟩ : ∃ z, (env.config e.group).zone = some z := by
    cases hz : (env.config e.group).zone with
    | none => simp [Fans.heldReserve, hz] at hheld
    | some z => exact ⟨z, rfl⟩
  have hconvert : F.convertZone env e l = some z := by
    rw [Fans.convertZone, hpriority, hheld]
    exact (if_pos rfl).trans hz
  have hremaining : F.reserves[z].remaining = a := by
    unfold Fans.heldReserve at hheld
    rw [hz] at hheld
    dsimp only at hheld
    split at hheld
    · split at hheld
      · simpa using (Prod.mk.inj (Option.some.inj hheld)).2
      · cases hheld
    · cases hheld
  rw [Fans.convertible, hconvert]
  exact hremaining

theorem Fans.normalTest_le {F : Fans} {a : Nat} {l : Leg} (h : F.normalTest a = some l) :
    a ≤ (F.leg l).free := by
  obtain ⟨-, hfree⟩ | ⟨rfl, -⟩ := Fans.normalTest_some h
  · exact hfree
  · exact Nat.zero_le _

theorem Fans.stageUpTest_le {F : Fans} {env : FanEnv} {e : StartEntry} {present : Option Leg} {l : Leg}
    (h : F.stageUpTest env e.priority (env.config e.group).zone present e.current = some l) :
    e.current ≤ (F.leg l).free + F.convertible env e l := by
  obtain ⟨hpresent, -⟩ := Fans.stageUpTest_some h
  rw [hpresent] at h
  unfold Fans.stageUpTest at h
  simp only [Option.ite_none_right_eq_some, Bool.and_eq_true, decide_eq_true_eq, and_true] at h
  obtain ⟨-, hle⟩ := h
  split at hle
  next rl a hpriority hheld =>
    split at hle
    next hrl =>
      subst hrl
      rwa [Fans.convertible_fire hpriority hheld]
    next => exact hle.trans (Nat.le_add_right _ _)
  next => exact hle.trans (Nat.le_add_right _ _)

/-- A draw test that names a leg has found the current there, free or convertible (R79, R80, R82). -/
theorem Fans.drawTest_le {F : Fans} {env : FanEnv} {e : StartEntry} {l : Leg}
    (h : F.drawTest env e = some l) : e.current ≤ (F.leg l).free + F.convertible env e l := by
  unfold Fans.drawTest at h
  dsimp only at h
  split at h
  · exact (Fans.normalTest_le h).trans (Nat.le_add_right _ _)
  next hpriority =>
    unfold Fans.fireTest at h
    split at h
    · exact (Fans.normalTest_le h).trans (Nat.le_add_right _ _)
    next rl a hheld =>
      split at h
      next hmet =>
        cases h
        rw [Fans.convertible_fire hpriority hheld]
        simpa using (Bool.and_eq_true_iff.1 hmet).2
      next =>
        split at h
        next hmet =>
          cases h
          have hfree : e.current ≤ (F.leg rl.other).free := by
            simpa using (Bool.and_eq_true_iff.1 hmet).2
          exact hfree.trans (Nat.le_add_right _ _)
        next => cases h
  · exact Fans.stageUpTest_le h

/-- The account as a grant leaves it before the draw is charged, its conversion made (R81). -/
def Fans.converted (F : Fans) (env : FanEnv) (e : StartEntry) (l : Leg) : Fans :=
  match F.convertZone env e l with
  | some z => F.convert z l (min e.current F.reserves[z].remaining)
  | none => F

theorem Fans.converted_groups (F : Fans) (env : FanEnv) (e : StartEntry) (l : Leg) :
    (F.converted env e l).groups = F.groups := by
  unfold Fans.converted
  split
  · simp [Fans.convert]
  · rfl

theorem Fans.converted_balanced {F : Fans} (hF : ∀ l, F.Balanced l) (env : FanEnv) (e : StartEntry)
    (l k : Leg) : (F.converted env e l).Balanced k := by
  unfold Fans.converted
  split
  next z hz =>
    obtain ⟨-, hl, -⟩ := Fans.convertZone_some hz
    exact Fans.Balanced.convert hF hl (Nat.min_le_right _ _) k
  next => exact hF k

/-- After the conversion the leg has room for the draw. -/
theorem Fans.converted_room {F : Fans} (hF : ∀ l, F.Balanced l) {env : FanEnv} {e : StartEntry} {l : Leg}
    (h : F.drawTest env e = some l) :
    ((F.converted env e l).leg l).drawn + ((F.converted env e l).leg l).reserved + e.current ≤
      ((F.converted env e l).leg l).capacity := by
  have hle := Fans.drawTest_le h
  obtain ⟨-, hreserved, hcapacity⟩ := hF l
  unfold LegRecord.free Fans.convertible at hle
  unfold Fans.converted
  split
  next z hz =>
    obtain ⟨-, hl, -⟩ := Fans.convertZone_some hz
    have hremaining : F.reserves[z].remainingOn l = F.reserves[z].remaining := if_pos hl
    have hsum := F.remainingOn_le z l
    simp only [hz] at hle
    simp only [Fans.convert, Fans.modLeg_leg, Fans.modReserve_leg]
    omega
  next hz =>
    simp only [hz] at hle
    omega

/-- A group as a granted entry leaves its supply record (R79, R81, R82). -/
def Fan.charged (f : Fan) (e : StartEntry) (l : Leg) (zone : Option (Fin 32)) (a : Nat) : Fan :=
  match e.purpose with
  | .start => { f with leg := some l, draw := e.current, reserveZone := zone, reserveTaken := a }
  | .stageUp => { f with draw := f.draw + e.current, reserveZone := f.reserveZone.orElse fun _ => zone,
                         reserveTaken := f.reserveTaken + a }

theorem Fans.charge_eq (F : Fans) (env : FanEnv) (e : StartEntry) (l : Leg) :
    F.charge env e l =
      ((F.converted env e l).modLeg l fun r => { r with drawn := r.drawn + e.current }).modGroup e.group
        fun f => f.charged e l (F.convertZone env e l) (min e.current (F.convertible env e l)) := by
  unfold Fans.charge Fans.converted Fans.convertible
  cases F.convertZone env e l with
  | none =>
    simp only [Nat.min_zero]
    rfl
  | some z => rfl

/-- A granted draw is charged with its conversion (R79 to R82). -/
theorem Fans.Balanced.charge {F : Fans} (hF : ∀ l, F.Balanced l) {env : FanEnv} {e : StartEntry} {l : Leg}
    (hstart : e.purpose = .start → F.groups[e.group].leg = none) (h : F.drawTest env e = some l) (k : Leg) :
    (F.charge env e l).Balanced k := by
  have hgroups := F.converted_groups env e l
  have hroom := Fans.converted_room hF h
  rw [Fans.charge_eq]
  refine Fans.Balanced.draw (Fans.converted_balanced hF env e l) (fun k => ?_) hroom k
  rw [hgroups]
  cases hpurpose : e.purpose with
  | start =>
    simp only [Fan.charged, hpurpose]
    rw [Fan.drawOn_of_none (hstart hpurpose), Fan.drawOn_of_leg (by rfl), Nat.zero_add]
  | stageUp =>
    simp only [Fan.charged, hpurpose]
    have hleg : F.groups[e.group].leg = some l := by
      unfold Fans.drawTest at h
      rw [hpurpose] at h
      exact (Fans.stageUpTest_some h).1
    rw [Fan.drawOn_of_leg hleg, Fan.drawOn_of_leg (by exact hleg)]
    split <;> rfl

/-- A refill reads and changes no group (R84). -/
theorem Fans.refill_modGroup (F : Fans) (env : FanEnv) (z : Option (Fin 32)) (l : Leg) (a : Nat)
    (g : Fin 4) (f : Fan → Fan) :
    (F.refill env z l a).modGroup g f = (F.modGroup g f).refill env z l a := by
  unfold Fans.refill
  split
  · rfl
  · dsimp only
    rw [Fans.modGroup_reserves]
    split
    · cases l <;> rfl
    · rfl

/-- A draw shrinks, and what it gives back refills the reserve it came from (R83, R84). -/
theorem Fans.Balanced.giveBack {F : Fans} (hF : ∀ l, F.Balanced l) {env : FanEnv} {g : Fin 4} {l : Leg}
    {c a : Nat} {z : Option (Fin 32)} {f : Fan → Fan}
    (hdraw : ∀ k, (f F.groups[g]).drawOn k + (if k = l then c else 0) = F.groups[g].drawOn k)
    (ha : a ≤ c) (k : Leg) :
    (((F.modLeg l fun r => { r with drawn := r.drawn - c }).refill env z l a).modGroup g f).Balanced k := by
  rw [Fans.refill_modGroup]
  refine Fans.Balanced.refill (Fans.Balanced.undraw hF hdraw) ?_ k
  have hle := F.drawOn_le g l
  have hl := hdraw l
  rw [if_pos rfl] at hl
  obtain ⟨hdrawn, -, hcapacity⟩ := hF l
  rw [Fans.modGroup_leg, Fans.modLeg_leg]
  dsimp only
  omega

/-- A whole draw returns (R84). -/
theorem Fans.Balanced.returnDraw {F : Fans} (hF : ∀ l, F.Balanced l) (env : FanEnv) {g : Fin 4}
    (htaken : F.groups[g].reserveTaken ≤ F.groups[g].draw) (k : Leg) : (F.returnDraw env g).Balanced k := by
  unfold Fans.returnDraw
  dsimp only
  split
  · exact hF k
  next l hl =>
    refine Fans.Balanced.giveBack hF (fun k => ?_) htaken k
    rw [Fan.drawOn_of_leg hl, Fan.drawOn_of_none (by rfl), Nat.zero_add]

/-- A stage-down returns what stage 2 drew beyond stage 1 (R83). -/
theorem Fans.Balanced.returnStage {F : Fans} (hF : ∀ l, F.Balanced l) {env : FanEnv} {g : Fin 4}
    (hdraw : F.groups[g].draw = (env.config g).i2) (hi : (env.config g).i1 ≤ (env.config g).i2)
    (htaken : F.groups[g].reserveTaken ≤ F.groups[g].draw) (k : Leg) :
    (F.returnStage env g).Balanced k := by
  unfold Fans.returnStage
  dsimp only
  split
  · exact hF k
  next l hl =>
    refine Fans.Balanced.giveBack hF (fun k => ?_) (by omega) k
    rw [Fan.drawOn_of_leg hl, Fan.drawOn_of_leg (by exact hl)]
    split
    · rw [hdraw]
      exact Nat.add_sub_cancel' hi
    · rfl

/-- A capacity is written that covers what stands on the leg (R78). -/
theorem Fans.Balanced.capacity {F : Fans} (hF : ∀ l, F.Balanced l) {l : Leg} {c : Nat}
    (hc : (F.leg l).drawn + (F.leg l).reserved ≤ c) (k : Leg) :
    (F.modLeg l fun r => { r with capacity := c }).Balanced k := by
  obtain ⟨hdrawn, hreserved, hcapacity⟩ := hF k
  unfold Fans.Balanced
  rw [Fans.drawsOn_congr (F.modLeg_groups l _), Fans.reservesOn_congr (F.modLeg_reserves l _)]
  by_cases hk : l = k
  · subst hk
    rw [Fans.modLeg_leg]
    exact ⟨hdrawn, hreserved, hc⟩
  · rw [Fans.modLeg_ne _ _ hk]
    exact ⟨hdrawn, hreserved, hcapacity⟩

/-- Settles O10, request by request. -/
theorem legAccountsBalance : Obligations.LegAccountsBalance := by
  unfold Obligations.LegAccountsBalance
  intro F env hF
  refine ⟨fun z a G hz hG => Fans.Balanced.reserve hF hz hG, fun z => Fans.Balanced.release hF z,
    fun e k hstart hk => Fans.Balanced.charge hF hstart hk,
    fun g htaken => Fans.Balanced.returnDraw hF env htaken, ?_,
    fun k c hc => Fans.Balanced.capacity hF hc⟩
  intro g hdraw hi _ htaken
  exact Fans.Balanced.returnStage hF hdraw hi htaken

end Sys2Proof.Machine
end

section
/-!
One group as the supply unit sees it: its machine, its entries in the start queue, and whether it holds the
slot. `GroupFit` says what section 6.3 and chapter 5 promise of these three together; every step of a group
changes its own three and, but for the account of the legs, nothing of the others (R89, R92).
-/

namespace Sys2Proof.Machine

/-! ### The view of one group -/

/-- The entries of a group in the start queue. -/
def Fans.entriesOf (F : Fans) (g : Fin 4) : List StartEntry := F.queue.filter fun e => e.group == g

/-- The purpose for which a group holds the start slot, if it does (R92). -/
def Fans.holds (F : Fans) (g : Fin 4) : Option Purpose :=
  match F.slot with
  | some (h, p) => if h = g then some p else none
  | none => none

/-- An entry fits the machine of its group (R89). -/
def Fan.admits (f : Fan) (e : StartEntry) : Prop :=
  match e.purpose with
  | .start => f.state = .queued
  | .stageUp => f.state = .running ∧ f.stage = 1

/-- The slot held for a purpose fits the machine (R92). -/
def Fan.slotFor (f : Fan) : Purpose → Prop
  | .start => f.state = .starting
  | .stageUp => f.state = .running

/-- An entry asks for the current of its purpose (R89, R105, R109). -/
def Fan.asks (f : Fan) (c : GroupConfig) (e : StartEntry) : Prop :=
  match e.purpose with
  | .start => e.current = c.current f.presented.stage
  | .stageUp => c.highPresent = true ∧ e.current = c.i2 - c.i1

/-- The states in which a target may be pending (R101). -/
def GroupState.mayPend : GroupState → Bool
  | .off | .starting | .running | .stopping => true
  | .windmillWait | .queued | .tripped | .locked => false

/-- What the supply account is computed from: the draw, the pending target and the entries of a group.
`free` says that the group is held, or waits to be released, so that its pending target may be an older one
(R99). -/
structure Fan.Account (c : GroupConfig) (free : Prop) (f : Fan) (q : List StartEntry) : Prop where
  config : c.i1 ≤ c.i2
  taken : f.reserveTaken ≤ f.draw
  draw : f.driven = true → f.draw = c.current f.stage ∧ (f.stage = 2 → c.highPresent = true)
  mayPend : f.pending.isSome = true → f.state.mayPend = true
  pending : ¬free → ∀ t ∈ f.pending, t = f.presented
  asks : ∀ e ∈ q, f.asks c e

/-- A group with its entries and its hold of the slot is sound, and where `strict` stands its account is. -/
structure GroupFit (c : GroupConfig) (strict free : Prop) (f : Fan) (q : List StartEntry)
    (h : Option Purpose) : Prop where
  sound : f.Sound
  single : q.length ≤ 1
  admits : ∀ e ∈ q, f.admits e
  slot : ∀ p ∈ h, f.slotFor p
  starting : f.state = .starting → h = some .start
  presented : f.presented.stage ≤ 2
  pending : ∀ t ∈ f.pending, t.stage ≤ 2
  account : strict → f.Account c free q

/-- Every group but `g` is sound with its entries and its hold of the slot, the queue is in order, and where
`strict` stands both legs balance. -/
structure Fans.Others (cfg : Fin 4 → GroupConfig) (strict : Prop) (free : Fin 4 → Prop) (g : Fin 4)
    (F : Fans) : Prop where
  fit : ∀ k, g ≠ k → GroupFit (cfg k) strict (free k) F.groups[k] (F.entriesOf k) (F.holds k)
  fires : F.queue.Pairwise fun a b => a.priority = .normal → b.priority = .normal
  balanced : strict → ∀ l, F.Balanced l

/-- Every group is sound with its entries and its hold of the slot, the queue is in order, and where `strict`
stands both legs balance. -/
structure Fans.Inv (cfg : Fin 4 → GroupConfig) (strict : Prop) (free : Fin 4 → Prop) (F : Fans) : Prop where
  fit : ∀ k, GroupFit (cfg k) strict (free k) F.groups[k] (F.entriesOf k) (F.holds k)
  fires : F.queue.Pairwise fun a b => a.priority = .normal → b.priority = .normal
  balanced : strict → ∀ l, F.Balanced l

section
variable {cfg : Fin 4 → GroupConfig} {strict : Prop} {free : Fin 4 → Prop} {F : Fans}

theorem Fans.Inv.others (h : F.Inv cfg strict free) (g : Fin 4) : F.Others cfg strict free g :=
  ⟨fun k _ => h.fit k, h.fires, h.balanced⟩

theorem Fans.Others.inv {g : Fin 4} (h : F.Others cfg strict free g)
    (hg : GroupFit (cfg g) strict (free g) F.groups[g] (F.entriesOf g) (F.holds g)) :
    F.Inv cfg strict free where
  fit k := by
    by_cases hk : g = k
    · exact hk ▸ hg
    · exact h.fit k hk
  fires := h.fires
  balanced := h.balanced

/-- A group that is freed of the obligation on its pending target keeps the rest. -/
theorem GroupFit.mono {c : GroupConfig} {free' : Prop} {un : Prop} {f : Fan} {q : List StartEntry}
    {h : Option Purpose} (hfit : GroupFit c strict un f q h) (hun : ¬free' → ¬un) :
    GroupFit c strict free' f q h :=
  ⟨hfit.sound, hfit.single, hfit.admits, hfit.slot, hfit.starting, hfit.presented, hfit.pending,
    fun hs => { hfit.account hs with pending := fun hf => (hfit.account hs).pending (hun hf) }⟩

end

/-! ### Entries and the slot -/

theorem Fans.mem_entriesOf {F : Fans} {g : Fin 4} {e : StartEntry} :
    e ∈ F.entriesOf g ↔ e ∈ F.queue ∧ e.group = g := by
  simp [Fans.entriesOf]

theorem Fans.holds_some {F : Fans} {g : Fin 4} {p : Purpose} :
    F.holds g = some p ↔ F.slot = some (g, p) := by
  unfold Fans.holds
  split
  next h q hslot =>
    rw [hslot]
    by_cases hh : h = g <;> simp [hh]
  next hslot => simp [hslot]

theorem Fans.holds_of_free {F : Fans} (h : F.slot = none) (g : Fin 4) : F.holds g = none := by
  simp [Fans.holds, h]

@[simp] theorem Fans.entriesOf_removeEntry_self (F : Fans) (g : Fin 4) :
    (F.removeEntry g).entriesOf g = [] := by
  simp [Fans.entriesOf, Fans.removeEntry, withoutGroup, List.filter_filter]

theorem Fans.entriesOf_removeEntry_ne (F : Fans) {g k : Fin 4} (h : g ≠ k) :
    (F.removeEntry g).entriesOf k = F.entriesOf k := by
  unfold Fans.entriesOf Fans.removeEntry withoutGroup
  rw [List.filter_filter]
  refine List.filter_congr fun e _ => ?_
  by_cases he : e.group = k <;> simp [he, Ne.symm h]

/-- A queue in order is its FIRE entries followed by its NORMAL ones (R89). -/
theorem fires_append_normals {q : List StartEntry}
    (h : q.Pairwise fun a b => a.priority = .normal → b.priority = .normal) :
    q.filter (·.priority == .fire) ++ q.filter (·.priority == .normal) = q := by
  induction q with
  | nil => rfl
  | cons e q ih =>
    obtain ⟨hhead, htail⟩ := List.pairwise_cons.1 h
    cases he : e.priority with
    | fire => simpa [he] using ih htail
    | normal =>
      have hall : ∀ x ∈ q, x.priority = .normal := fun x hx => hhead x hx he
      have hfires : q.filter (·.priority == .fire) = [] :=
        List.filter_eq_nil_iff.2 fun x hx => by simp [hall x hx]
      have hnormals : q.filter (·.priority == .normal) = q :=
        List.filter_eq_self.2 fun x hx => by simp [hall x hx]
      simp [he, hfires, hnormals]

/-- An entry joins the entries of its own group. -/
theorem Fans.entriesOf_join_self {F : Fans} {e : StartEntry} (hnone : F.entriesOf e.group = []) :
    Fans.entriesOf { F with queue := joinQueue F.queue e } e.group = [e] := by
  have hnone' : ∀ p : Authority, (F.queue.filter (·.priority == p)).filter (fun x => x.group == e.group) = [] := by
    intro p
    rw [List.filter_filter, List.filter_eq_nil_iff]
    intro x hx
    have hne := (List.filter_eq_nil_iff.1 hnone) x hx
    simp_all
  unfold Fans.entriesOf at hnone
  unfold Fans.entriesOf joinQueue
  cases he : e.priority with
  | normal => simp [List.filter_append, hnone]
  | fire =>
    dsimp only
    rw [List.filter_append, List.filter_append, hnone', hnone']
    simp

theorem Fans.entriesOf_join_ne {F : Fans} {e : StartEntry} {k : Fin 4} (h : e.group ≠ k)
    (hfires : F.queue.Pairwise fun a b => a.priority = .normal → b.priority = .normal) :
    Fans.entriesOf { F with queue := joinQueue F.queue e } k = F.entriesOf k := by
  unfold Fans.entriesOf joinQueue
  cases he : e.priority with
  | normal => simp [List.filter_append, h]
  | fire =>
    have hsplit := congrArg (List.filter fun x => x.group == k) (fires_append_normals hfires)
    dsimp only
    rw [List.filter_append] at hsplit
    rw [List.filter_append, List.filter_append, ← hsplit]
    simp [h]

/-- An entry that is replaced stands where it stood. -/
theorem Fans.entriesOf_change_self {F : Fans} {e : StartEntry} {g : Fin 4} (he : e.group = g) :
    Fans.entriesOf { F with queue := F.queue.map fun x => if x.group = g then e else x } g =
      (F.entriesOf g).map fun _ => e := by
  unfold Fans.entriesOf
  induction F.queue with
  | nil => rfl
  | cons x q ih => by_cases hx : x.group = g <;> simp_all

theorem Fans.entriesOf_change_ne {F : Fans} {e : StartEntry} {g k : Fin 4} (he : e.group = g) (h : g ≠ k) :
    Fans.entriesOf { F with queue := F.queue.map fun x => if x.group = g then e else x } k =
      F.entriesOf k := by
  unfold Fans.entriesOf
  induction F.queue with
  | nil => rfl
  | cons x q ih =>
    by_cases hx : x.group = g
    · simp_all
    · simp only [List.map_cons, if_neg hx, List.filter_cons, ih]

/-- A replacement of the same priority leaves the order of the queue (R89). -/
theorem fires_change {q : List StartEntry} {g : Fin 4} {e : StartEntry}
    (hpriority : ∀ x ∈ q, x.group = g → x.priority = e.priority)
    (h : q.Pairwise fun a b => a.priority = .normal → b.priority = .normal) :
    (q.map fun x => if x.group = g then e else x).Pairwise
      fun a b => a.priority = .normal → b.priority = .normal := by
  have hsame : ∀ x ∈ q, (if x.group = g then e else x).priority = x.priority := by
    intro x hx
    split
    next hg => exact (hpriority x hx hg).symm
    next => rfl
  rw [List.pairwise_map]
  refine h.imp_of_mem fun {a b} ha hb hab => ?_
  rw [hsame a ha, hsame b hb]
  exact hab

theorem Fans.holds_releaseSlot_self (F : Fans) (g : Fin 4) : (F.releaseSlot g).holds g = none := by
  unfold Fans.releaseSlot
  split
  next h p hslot =>
    split
    · rfl
    next hne => simp [Fans.holds, hslot, hne]
  next hslot => exact Fans.holds_of_free hslot g

theorem Fans.holds_releaseSlot_ne (F : Fans) {g k : Fin 4} (h : g ≠ k) :
    (F.releaseSlot g).holds k = F.holds k := by
  unfold Fans.releaseSlot
  split
  next i p hslot =>
    split
    next hi => simp [Fans.holds, hslot, hi, h]
    next => rfl
  next => rfl

@[simp] theorem Fans.entriesOf_releaseSlot (F : Fans) (g k : Fin 4) :
    (F.releaseSlot g).entriesOf k = F.entriesOf k := by
  simp [Fans.entriesOf]

/-! ### Changes of one group, seen from the others -/

namespace Fans.Others

variable {cfg : Fin 4 → GroupConfig} {strict : Prop} {free : Fin 4 → Prop} {F G : Fans} {g : Fin 4}
  (h : F.Others cfg strict free g)
include h

theorem frame (hgroups : ∀ k, g ≠ k → G.groups[k] = F.groups[k])
    (hentries : ∀ k, g ≠ k → G.entriesOf k = F.entriesOf k) (hholds : ∀ k, g ≠ k → G.holds k = F.holds k)
    (hfires : G.queue.Pairwise fun a b => a.priority = .normal → b.priority = .normal)
    (hbalanced : strict → ∀ l, G.Balanced l) : G.Others cfg strict free g where
  fit k hk := by
    rw [hgroups k hk, hentries k hk, hholds k hk]
    exact h.fit k hk
  fires := hfires
  balanced := hbalanced

theorem modGroup {f : Fan → Fan} (hf : ∀ x, (f x).leg = x.leg ∧ (f x).draw = x.draw) :
    (F.modGroup g f).Others cfg strict free g := by
  refine h.frame (fun k hk => Fans.modGroup_ne _ _ hk) (fun _ _ => rfl) (fun _ _ => rfl) h.fires
    fun hs => Fans.Balanced.group (h.balanced hs) fun l => ?_
  rw [Fan.drawOn, (hf _).1, (hf _).2]
  rfl

theorem removeEntry : (F.removeEntry g).Others cfg strict free g :=
  h.frame (fun _ _ => rfl) (fun _ hk => Fans.entriesOf_removeEntry_ne _ hk) (fun _ _ => rfl)
    (h.fires.sublist (withoutGroup_sublist _ _)) h.balanced

theorem join {e : StartEntry} (he : e.group = g) :
    Fans.Others cfg strict free g { F with queue := joinQueue F.queue e } :=
  h.frame (fun _ _ => rfl) (fun _ hk => Fans.entriesOf_join_ne (he ▸ hk) h.fires) (fun _ _ => rfl)
    (joinQueue_pairwise h.fires) h.balanced

theorem change {e : StartEntry} (he : e.group = g)
    (hpriority : ∀ x ∈ F.queue, x.group = g → x.priority = e.priority) :
    Fans.Others cfg strict free g { F with queue := F.queue.map fun x => if x.group = g then e else x } :=
  h.frame (fun _ _ => rfl) (fun _ hk => Fans.entriesOf_change_ne he hk) (fun _ _ => rfl)
    (fires_change hpriority h.fires) h.balanced

theorem releaseSlot : (F.releaseSlot g).Others cfg strict free g := by
  refine h.frame (fun _ _ => by rw [Fans.releaseSlot_groups])
    (fun _ _ => Fans.entriesOf_releaseSlot _ _ _) (fun _ hk => Fans.holds_releaseSlot_ne _ hk) ?_ fun hs l => ?_
  · rw [Fans.releaseSlot_queue]
    exact h.fires
  · have hleg : (F.releaseSlot g).leg l = F.leg l := by cases l <;> simp [Fans.leg]
    unfold Fans.Balanced
    rw [hleg, Fans.drawsOn_congr (F.releaseSlot_groups g), Fans.reservesOn_congr (F.releaseSlot_reserves g)]
    exact h.balanced hs l

theorem takeSlot (hslot : F.slot = none) (p : Purpose) :
    Fans.Others cfg strict free g { F with slot := some (g, p) } :=
  h.frame (fun _ _ => rfl) (fun _ _ => rfl)
    (fun _ hk => by rw [Fans.holds_of_free hslot]; simp [Fans.holds, hk]) h.fires h.balanced

theorem choices (i : Nat) : Fans.Others cfg strict free g { F with choices := i } :=
  h.frame (fun _ _ => rfl) (fun _ _ => rfl) (fun _ _ => rfl) h.fires h.balanced

theorem charge {env : FanEnv} {e : StartEntry} {l : Leg} (he : e.group = g)
    (hstart : e.purpose = .start → F.groups[g].leg = none) (htest : F.drawTest env e = some l) :
    (F.charge env e l).Others cfg strict free g := by
  have hframe : (F.charge env e l).queue = F.queue ∧ (F.charge env e l).slot = F.slot ∧
      ∀ k, g ≠ k → (F.charge env e l).groups[k] = F.groups[k] := by
    rw [Fans.charge_eq]
    refine ⟨?_, ?_, fun k hk => ?_⟩
    · unfold Fans.converted
      split <;> simp [Fans.convert]
    · unfold Fans.converted
      split <;> simp [Fans.convert]
    · rw [he, Fans.modGroup_ne _ _ hk]
      simp only [Fans.modLeg_groups, Fans.converted_groups]
  obtain ⟨hqueue, hslot, hgroups⟩ := hframe
  refine h.frame hgroups (fun k _ => by rw [Fans.entriesOf, hqueue]; rfl)
    (fun k _ => by rw [Fans.holds, hslot]; rfl) (by rw [hqueue]; exact h.fires) fun hs => ?_
  subst he
  exact Fans.Balanced.charge (h.balanced hs) hstart htest

theorem returnDraw (env : FanEnv) (htaken : strict → F.groups[g].reserveTaken ≤ F.groups[g].draw) :
    (F.returnDraw env g).Others cfg strict free g := by
  obtain ⟨hqueue, hslot, -, hgroups⟩ := F.returnDraw_frame env g
  refine h.frame (fun k hk => ?_) (fun k _ => by rw [Fans.entriesOf, hqueue]; rfl)
    (fun k _ => by rw [Fans.holds, hslot]; rfl) (by rw [hqueue]; exact h.fires)
    fun hs => Fans.Balanced.returnDraw (h.balanced hs) env (htaken hs)
  rw [hgroups]
  split
  · rfl
  · exact upd_ne _ _ _ _ hk

end Fans.Others

/-- A returned stage leaves the queue, the slot, and every other group (R83). -/
theorem Fans.returnStage_frame (F : Fans) (env : FanEnv) (g : Fin 4) :
    (F.returnStage env g).queue = F.queue ∧ (F.returnStage env g).slot = F.slot ∧
      (F.returnStage env g).groups =
        if F.groups[g].leg = none then F.groups
        else upd F.groups g fun f =>
          { f with draw := (env.config g).i1, reserveTaken := min f.reserveTaken (env.config g).i1 } := by
  unfold Fans.returnStage
  dsimp only
  cases h : F.groups[g].leg with
  | none => simp
  | some l =>
    obtain ⟨hgroups, hqueue, hslot, -⟩ := Fans.refill_frame
      (F.modLeg l fun r => { r with drawn := r.drawn - ((env.config g).i2 - (env.config g).i1) }) env
      F.groups[g].reserveZone l (F.groups[g].reserveTaken - (env.config g).i1)
    simp only [Fans.modGroup, hgroups, hqueue, hslot, Fans.modLeg_groups, Fans.modLeg_queue,
      Fans.modLeg_slot, reduceCtorEq, if_false, and_self]

theorem Fans.Others.returnStage {cfg : Fin 4 → GroupConfig} {strict : Prop} {free : Fin 4 → Prop}
    {F : Fans} {g : Fin 4} (h : F.Others cfg strict free g) (env : FanEnv)
    (hdraw : strict → F.groups[g].draw = (env.config g).i2) (hi : strict → (env.config g).i1 ≤ (env.config g).i2)
    (htaken : strict → F.groups[g].reserveTaken ≤ F.groups[g].draw) :
    (F.returnStage env g).Others cfg strict free g := by
  obtain ⟨hqueue, hslot, hgroups⟩ := F.returnStage_frame env g
  refine h.frame (fun k hk => ?_) (fun k _ => by rw [Fans.entriesOf, hqueue]; rfl)
    (fun k _ => by rw [Fans.holds, hslot]; rfl) (by rw [hqueue]; exact h.fires)
    fun hs => Fans.Balanced.returnStage (h.balanced hs) (hdraw hs) (hi hs) (htaken hs)
  rw [hgroups]
  split
  · rfl
  · exact upd_ne _ _ _ _ hk

end Sys2Proof.Machine
end

section
/-!
Every step of a group keeps its own machine, its entries and its hold of the slot sound, with the account of
the legs (chapters 5 and 6). `Acting` is the moment at which a target acts on a group: the other groups are
sound, and this one is so for the target it was presented before.
-/

namespace Sys2Proof.Machine

/-! ### Machines that draw nothing -/

/-- A machine outside STARTING and RUNNING, as R84 and R100 leave it. -/
structure Fan.Idle (f : Fan) : Prop where
  driven : f.driven = false
  outputs : f.fwd = false ∧ f.rev = false ∧ f.high = false ∧ f.stage = 0
  supply : f.leg = none ∧ f.draw = 0 ∧ f.reserveZone = none ∧ f.reserveTaken = 0
  timers : f.start = none ∧ f.stageUp = none ∧ f.runMin = none

theorem Fan.Sound.idle {f : Fan} (h : f.Sound) (hd : f.driven = false) : f.Idle := by
  obtain ⟨-, hidle, -, hstart, hstageUp, hrunMin, -⟩ := h
  obtain ⟨hfwd, hrev, hhigh, hstage, hleg, hdraw, hzone, htaken⟩ := hidle hd
  have hstate : f.state ≠ .starting ∧ f.state ≠ .running := by simpa [Fan.driven] using hd
  refine ⟨hd, ⟨hfwd, hrev, hhigh, hstage⟩, ⟨hleg, hdraw, hzone, htaken⟩, ?_, ?_, ?_⟩
  · exact Option.not_isSome_iff_eq_none.1 fun h => hstate.1 (hstart h)
  · exact Option.not_isSome_iff_eq_none.1 fun h => hstate.2 (hstageUp h)
  · exact Option.not_isSome_iff_eq_none.1 fun h => hstate.2 (hrunMin h)

theorem Fan.Idle.sound {f : Fan} (h : f.Idle) (htrip : f.tripCause.isSome = true ↔ f.state = .tripped)
    (hcoast : f.coast.isSome = true → f.state = .stopping ∨ f.state = .tripped)
    (hwindmill : f.windmill.isSome = true → f.state = .windmillWait) : f.Sound := by
  obtain ⟨hdriven, ⟨hfwd, hrev, hhigh, hstage⟩, ⟨hleg, hdraw, hzone, htaken⟩, hstart, hstageUp, hrunMin⟩ := h
  exact ⟨fun h => absurd h (by simp [hdriven]),
    fun _ => ⟨hfwd, hrev, hhigh, hstage, hleg, hdraw, hzone, htaken⟩, htrip,
    by simp [hstart], by simp [hstageUp], by simp [hrunMin], hcoast, hwindmill⟩

/-- An idle group that waits in no queue, or in QUEUED for a START, fits. -/
theorem GroupFit.idle {c : GroupConfig} {strict un : Prop} {f : Fan} {q : List StartEntry} (h : f.Idle)
    (hsound : f.Sound) (hsingle : q.length ≤ 1) (hadmits : ∀ e ∈ q, f.admits e)
    (hpresented : f.presented.stage ≤ 2) (hpending : ∀ t ∈ f.pending, t.stage ≤ 2)
    (haccount : strict → c.i1 ≤ c.i2 ∧ (f.pending.isSome = true → f.state.mayPend = true) ∧
      (¬un → ∀ t ∈ f.pending, t = f.presented) ∧ ∀ e ∈ q, f.asks c e) : GroupFit c strict un f q none where
  sound := hsound
  single := hsingle
  admits := hadmits
  slot _ hp := by cases hp
  starting hs := by
    have hd := h.driven
    simp [Fan.driven, hs] at hd
  presented := hpresented
  pending := hpending
  account hs := by
    obtain ⟨hconfig, hmay, hpend, hasks⟩ := haccount hs
    exact ⟨hconfig, by simp [h.supply], fun hd => absurd hd (by simp [h.driven]), hmay, hpend, hasks⟩

/-- A group that waits in no queue state has no entry but for a STAGE_UP. -/
theorem GroupFit.entries_nil {c : GroupConfig} {strict un : Prop} {f : Fan} {q : List StartEntry}
    {h : Option Purpose} (hfit : GroupFit c strict un f q h) (hqueued : f.state ≠ .queued)
    (hrunning : f.state = .running → f.stage ≠ 1) : q = [] := by
  refine List.eq_nil_iff_forall_not_mem.2 fun e he => ?_
  have hadmits := hfit.admits e he
  unfold Fan.admits at hadmits
  split at hadmits
  · exact hqueued hadmits
  · exact hrunning hadmits.1 hadmits.2

/-- A group outside STARTING and RUNNING holds no slot (R92). -/
theorem GroupFit.holds_none {c : GroupConfig} {strict un : Prop} {f : Fan} {q : List StartEntry}
    {h : Option Purpose} (hfit : GroupFit c strict un f q h) (hd : f.driven = false) : h = none := by
  refine Option.eq_none_iff_forall_ne_some.2 fun p hp => ?_
  have hslot := hfit.slot p hp
  cases p <;> simp [Fan.slotFor] at hslot <;> simp [Fan.driven, hslot] at hd

/-! ### The moment at which a target acts -/

/-- The target `t` acts on group `g`: it is presented, and the group is sound for the target `old` that was
presented before, whatever its pending target. -/
structure Acting (cfg : Fin 4 → GroupConfig) (strict : Prop) (free : Fin 4 → Prop) (old t : Target)
    (g : Fin 4) (F : Fans) : Prop where
  others : F.Others cfg strict free g
  before : GroupFit (cfg g) strict True { F.groups[g] with presented := old } (F.entriesOf g) (F.holds g)
  low : t.stage ≤ 2
  presented : F.groups[g].presented.stage ≤ 2
  target : strict → F.groups[g].presented = t

/-- The queue is examined: soundness is kept, and a group that has no entry is left alone (R90). -/
structure Examines (cfg : Fin 4 → GroupConfig) (strict : Prop) (free : Fin 4 → Prop)
    (ex : FanRun → FanRun) : Prop where
  inv : ∀ {r : FanRun}, r.fans.Inv cfg strict free → (ex r).fans.Inv cfg strict free
  apart : ∀ {r : FanRun} {g : Fin 4}, (∀ e ∈ r.fans.queue, e.group ≠ g) →
    (ex r).fans.groups[g] = r.fans.groups[g] ∧ ∀ e ∈ (ex r).fans.queue, e.group ≠ g

section
variable {cfg : Fin 4 → GroupConfig} {strict : Prop} {free : Fin 4 → Prop} {old t : Target}
  {g : Fin 4} {F : Fans}

theorem examines_id : Examines cfg strict free id := ⟨fun h => h, fun h => ⟨rfl, h⟩⟩

theorem Fans.Inv.acting (h : F.Inv cfg strict free) (ht : t.stage ≤ 2)
    (htarget : strict → F.groups[g].presented = t) :
    Acting cfg strict free F.groups[g].presented t g F :=
  ⟨h.others g, (h.fit g).mono fun hf => absurd trivial hf, ht, (h.fit g).presented, htarget⟩

theorem Acting.sound (h : Acting cfg strict free old t g F) : F.groups[g].Sound := h.before.sound

theorem Fans.holds_modGroup (F : Fans) (g k : Fin 4) (f : Fan → Fan) :
    (F.modGroup g f).holds k = F.holds k := rfl

theorem Fans.entriesOf_modGroup (F : Fans) (g k : Fin 4) (f : Fan → Fan) :
    (F.modGroup g f).entriesOf k = F.entriesOf k := rfl

/-- A group on which a target acts becomes `x`, with its entries and its hold of the slot as they were. -/
theorem Acting.modGroup (h : Acting cfg strict free old t g F) {f : Fan → Fan}
    (hf : ∀ x, (f x).leg = x.leg ∧ (f x).draw = x.draw ∧ (f x).presented = x.presented)
    (hfit : GroupFit (cfg g) strict True { f F.groups[g] with presented := old } (F.entriesOf g) (F.holds g)) :
    Acting cfg strict free old t g (F.modGroup g f) := by
  have hself := F.modGroup_self g f
  refine ⟨h.others.modGroup fun x => ⟨(hf x).1, (hf x).2.1⟩, ?_, h.low, ?_, ?_⟩ <;> rw [hself]
  · exact hfit
  · rw [(hf _).2.2]
    exact h.presented
  · rw [(hf _).2.2]
    exact h.target

/-- A target has acted when no START entry waits for another and the pending target is this one. -/
theorem Acting.done (h : Acting cfg strict free old t g F) (hqueued : F.groups[g].state ≠ .queued)
    (hpending : strict → ¬free g → ∀ x ∈ F.groups[g].pending, x = t) : F.Inv cfg strict free := by
  refine h.others.inv ⟨h.sound, h.before.single, h.before.admits, h.before.slot, h.before.starting,
    h.presented, h.before.pending, fun hs => ?_⟩
  have haccount := h.before.account hs
  refine ⟨haccount.config, haccount.taken, haccount.draw, haccount.mayPend, fun hf x hx => ?_,
    fun e he => ?_⟩
  · rw [h.target hs]
    exact hpending hs hf x hx
  · have hadmits := h.before.admits e he
    have hasks := haccount.asks e he
    unfold Fan.admits at hadmits
    unfold Fan.asks at hasks ⊢
    cases hp : e.purpose with
    | start =>
      rw [hp] at hadmits
      exact absurd hadmits hqueued
    | stageUp =>
      rw [hp] at hasks
      exact hasks

/-- The pending target may be replaced where the state lets one stand. -/
theorem Acting.setPending (h : Acting cfg strict free old t g F) (x : Option Target)
    (hx : ∀ y ∈ x, y = t) (hmay : x.isSome = true → F.groups[g].state.mayPend = true) :
    Acting cfg strict free old t g (F.modGroup g fun f => { f with pending := x }) :=
  h.modGroup (fun _ => ⟨rfl, rfl, rfl⟩) ⟨h.before.sound, h.before.single, h.before.admits, h.before.slot,
    h.before.starting, h.before.presented, fun y hy => (hx y hy) ▸ h.low, fun hs =>
      { h.before.account hs with mayPend := hmay, pending := fun hf => absurd trivial hf }⟩

/-- A target that is made the pending one, or clears it, has acted. -/
theorem Acting.pend (h : Acting cfg strict free old t g F) (x : Option Target) (hx : ∀ y ∈ x, y = t)
    (hmay : x.isSome = true → F.groups[g].state.mayPend = true) (hqueued : F.groups[g].state ≠ .queued) :
    (F.modGroup g fun f => { f with pending := x }).Inv cfg strict free := by
  refine (h.setPending x hx hmay).done ?_ ?_ <;> rw [Fans.modGroup_self]
  · exact hqueued
  · exact fun _ _ => hx

/-- The entry of a group leaves the queue. -/
theorem Acting.removeEntry (h : Acting cfg strict free old t g F) :
    Acting cfg strict free old t g (F.removeEntry g) := by
  refine ⟨h.others.removeEntry, ?_, h.low, h.presented, h.target⟩
  rw [Fans.entriesOf_removeEntry_self]
  exact ⟨h.before.sound, by simp, by simp, h.before.slot, h.before.starting, h.before.presented,
    h.before.pending, fun hs => { h.before.account hs with asks := by simp }⟩

/-! ### From OFF to the start queue (R102 to R105) -/

/-- A group that stands before the start queue: in OFF, WINDMILL_WAIT or QUEUED, with no entry and no
pending target. -/
structure Waits (strict : Prop) (g : Fin 4) (F : Fans) : Prop where
  state : F.groups[g].state = .off ∨ F.groups[g].state = .windmillWait ∨ F.groups[g].state = .queued
  entries : F.entriesOf g = []
  pending : strict → F.groups[g].pending = none

theorem Waits.driven (h : Waits strict g F) : F.groups[g].driven = false := by
  obtain hs | hs | hs := h.state <;> simp only [Fan.driven, hs] <;> rfl

/-- The states before the start queue are of one kind: nothing is drawn, no cause held, no coast timer
runs. -/
theorem Acting.waits (h : Acting cfg strict free old t g F) (hw : Waits strict g F) :
    F.groups[g].Idle ∧ F.groups[g].tripCause = none ∧ F.groups[g].coast = none ∧ F.holds g = none := by
  refine ⟨h.sound.idle hw.driven, ?_, ?_, h.before.holds_none hw.driven⟩
  · obtain ⟨-, -, htrip, -⟩ := h.sound
    refine Option.not_isSome_iff_eq_none.1 fun hsome => ?_
    have hstate := htrip.1 hsome
    obtain hs | hs | hs := hw.state <;> rw [hs] at hstate <;> cases hstate
  · obtain ⟨-, -, -, -, -, -, hcoast, -⟩ := h.sound
    refine Option.not_isSome_iff_eq_none.1 fun hsome => ?_
    have hstate := hcoast hsome
    obtain hs | hs | hs := hw.state <;> rw [hs] at hstate <;> simp at hstate

end

section
variable {env : FanEnv} {strict : Prop} {free : Fin 4 → Prop} {old t : Target} {g : Fin 4} {r : FanRun}
  {ex : FanRun → FanRun}

/-- An idle group takes another of the states before and in the start queue. -/
theorem GroupFit.waiting {c : GroupConfig} {strict un : Prop} {f : Fan} (hidle : f.Idle)
    (htrip : f.tripCause = none) (hcoast : f.coast = none) {s : GroupState}
    (hs : s = .off ∨ s = .windmillWait ∨ s = .queued) {w : Timer} (hw : w.isSome = true → s = .windmillWait)
    {p : Option Target} (hp : ∀ t ∈ p, t.stage ≤ 2) (hpresented : f.presented.stage ≤ 2)
    {q : List StartEntry} (hsingle : q.length ≤ 1) (hadmits : ∀ e ∈ q, e.purpose = .start ∧ s = .queued)
    (haccount : strict → c.i1 ≤ c.i2 ∧ (p.isSome = true → s.mayPend = true) ∧
      (¬un → ∀ t ∈ p, t = f.presented) ∧ ∀ e ∈ q, e.current = c.current f.presented.stage) :
    GroupFit c strict un { f with state := s, windmill := w, pending := p } q none := by
  have hidle' : Fan.Idle { f with state := s, windmill := w, pending := p } :=
    ⟨by obtain rfl | rfl | rfl := hs <;> rfl, hidle.outputs, hidle.supply, hidle.timers⟩
  refine .idle hidle' (hidle'.sound ?_ (by simp [hcoast]) hw) hsingle (fun e he => ?_) hpresented hp
    fun hstrict => ?_
  · obtain rfl | rfl | rfl := hs <;> simp [htrip]
  · obtain ⟨hpurpose, hqueued⟩ := hadmits e he
    simp [Fan.admits, hpurpose, hqueued]
  · obtain ⟨hconfig, hmay, hpend, hasks⟩ := haccount hstrict
    refine ⟨hconfig, hmay, hpend, fun e he => ?_⟩
    simp [Fan.asks, (hadmits e he).1, hasks e he]

/-- The START entry of a QUEUED group that has none joins for the target that acts (R105). -/
theorem Acting.joined {F : Fans} (h : Acting env.config strict free old t g F)
    (hqueued : F.groups[g].state = .queued) (hentries : F.entriesOf g = [])
    (hpending : strict → F.groups[g].pending = none) :
    Fans.Inv env.config strict free { F with queue := joinQueue F.queue (startEntry env g t) } := by
  have hjoin := Fans.entriesOf_join_self (e := startEntry env g t) hentries
  refine (h.others.join (e := startEntry env g t) rfl).inv ?_
  refine Eq.mpr (congrArg (fun q => GroupFit _ _ _ F.groups[g] q (F.holds g)) hjoin) ?_
  refine ⟨h.sound, by simp, ?_, h.before.slot, h.before.starting, h.presented, h.before.pending, fun hs =>
    { h.before.account hs with asks := ?_, pending := ?_ }⟩
  · intro e he
    rw [List.mem_singleton.1 he]
    exact hqueued
  · rw [hpending hs]
    simp
  · intro e he
    rw [List.mem_singleton.1 he]
    simp only [Fan.asks, startEntry, h.target hs]

theorem enterQueued_inv (hex : Examines env.config strict free ex)
    (h : Acting env.config strict free old t g r.fans) (hw : Waits strict g r.fans) :
    (r.enterQueued ex env g t).fans.Inv env.config strict free := by
  obtain ⟨hidle, htrip, hcoast, hholds⟩ := h.waits hw
  have hself := r.fans.modGroup_self g fun f => { f with state := .queued, windmill := none }
  have hqueued := h.modGroup (f := fun f => { f with state := .queued, windmill := none })
    (fun _ => ⟨rfl, rfl, rfl⟩) (by
      rw [hw.entries, hholds]
      exact .waiting (f := { r.fans.groups[g] with presented := old })
        ⟨hidle.driven, hidle.outputs, hidle.supply, hidle.timers⟩
        htrip hcoast (.inr (.inr rfl)) (by simp) h.before.pending h.before.presented (by simp) (by simp)
        fun hs => ⟨(h.before.account hs).config, by rw [hw.pending hs]; simp, fun hf => absurd trivial hf,
          by simp⟩)
  refine hex.inv ?_
  rw [FanRun.joinEntry_fans]
  exact hqueued.joined (congrArg Fan.state hself) hw.entries fun hs =>
    (congrArg Fan.pending hself).trans (hw.pending hs)

theorem airflowCheck_inv (hex : Examines env.config strict free ex)
    (h : Acting env.config strict free old t g r.fans) (hw : Waits strict g r.fans) :
    (r.airflowCheck ex env g t).fans.Inv env.config strict free := by
  unfold FanRun.airflowCheck
  split
  · split
    · exact enterQueued_inv hex (r := r.raise .windmillOverride g .info (env.airMagnitude g)) h hw
    · obtain ⟨hidle, htrip, hcoast, hholds⟩ := h.waits hw
      refine (h.others.modGroup (f := fun f =>
        { f with state := .windmillWait, windmill := Timer.seconds (env.config g).windmillWait })
        fun _ => ⟨rfl, rfl⟩).inv ?_
      rw [Fans.modGroup_self, Fans.entriesOf_modGroup, Fans.holds_modGroup, hw.entries, hholds]
      refine .waiting hidle htrip hcoast (.inr (.inl rfl)) (fun _ => rfl) h.before.pending h.presented
        (by simp) (by simp) fun hs => ⟨(h.before.account hs).config, ?_, ?_, by simp⟩
      · rw [hw.pending hs]
        simp
      · rw [hw.pending hs]
        simp
  · exact enterQueued_inv hex h hw

/-- A group outside the queue has no entry unless it runs at stage 1. -/
theorem Acting.entries_nil (h : Acting env.config strict free old t g r.fans)
    (hqueued : r.fans.groups[g].state ≠ .queued)
    (hrunning : r.fans.groups[g].state = .running → r.fans.groups[g].stage ≠ 1) :
    r.fans.entriesOf g = [] :=
  h.before.entries_nil hqueued hrunning

/-- Outside the states that let a target pend none does. -/
theorem Acting.pending_none (h : Acting env.config strict free old t g r.fans)
    (hmay : r.fans.groups[g].state.mayPend = false) (hs : strict) : r.fans.groups[g].pending = none := by
  refine Option.not_isSome_iff_eq_none.1 fun hsome => ?_
  have hstate := (h.before.account hs).mayPend hsome
  rw [hmay] at hstate
  cases hstate

/-- A change of effective target in OFF (R102). -/
theorem actOff_inv (hex : Examines env.config strict free ex)
    (h : Acting env.config strict free old t g r.fans) (hoff : r.fans.groups[g].state = .off) :
    (r.actOff ex env g t).fans.Inv env.config strict free := by
  have hqueued : r.fans.groups[g].state ≠ .queued := by rw [hoff]; decide
  have hmay : r.fans.groups[g].state.mayPend = true := by rw [hoff]; rfl
  unfold FanRun.actOff
  split
  · exact h.pend none (by simp) (by simp) hqueued
  · split
    · exact h.pend (some t) (by simp) (fun _ => hmay) hqueued
    · refine airflowCheck_inv hex (old := old) (h.setPending none (by simp) (by simp)) ⟨.inl ?_, ?_, fun _ => ?_⟩
      · exact (congrArg Fan.state (Fans.modGroup_self _ _ _)).trans hoff
      · exact h.entries_nil hqueued fun hs => absurd (hoff.symm.trans hs) (by decide)
      · exact congrArg Fan.pending (Fans.modGroup_self _ _ _)

/-- A group that returns to OFF from WINDMILL_WAIT or QUEUED (R102). -/
theorem backToOff_inv (h : Acting env.config strict free old t g r.fans)
    (hstate : r.fans.groups[g].state = .windmillWait ∨ r.fans.groups[g].state = .queued)
    (keep : Option Target) (hkeep : ∀ x ∈ keep, x = t) :
    (r.backToOff g keep).fans.Inv env.config strict free := by
  have hdriven : r.fans.groups[g].driven = false := by
    obtain hs | hs := hstate <;> simp only [Fan.driven, hs] <;> rfl
  have hidle := h.sound.idle hdriven
  obtain ⟨-, -, htrip, -, -, -, hcoast, -⟩ := h.sound
  refine (h.removeEntry.others.modGroup (f := fun f =>
    { f with state := .off, pending := keep, windmill := none }) fun _ => ⟨rfl, rfl⟩).inv ?_
  rw [Fans.modGroup_self, Fans.entriesOf_modGroup, Fans.holds_modGroup, Fans.entriesOf_removeEntry_self]
  change GroupFit _ _ _ _ [] (r.fans.holds g)
  rw [h.before.holds_none hdriven]
  refine .waiting (w := none) hidle ?_ ?_ (.inl rfl) (by simp) (fun x hx => (hkeep x hx) ▸ h.low) h.presented
    (by simp) (by simp) fun hs => ⟨(h.before.account hs).config, fun _ => rfl, fun _ x hx => ?_, by simp⟩
  · refine Option.not_isSome_iff_eq_none.1 fun hsome => ?_
    have htripped := htrip.1 hsome
    obtain hs | hs := hstate <;> rw [hs] at htripped <;> cases htripped
  · refine Option.not_isSome_iff_eq_none.1 fun hsome => ?_
    have hcoasting := hcoast hsome
    obtain hs | hs := hstate <;> rw [hs] at hcoasting <;> simp at hcoasting
  · exact (hkeep x hx).trans (h.target hs).symm

/-- A change of effective target in WINDMILL_WAIT (R104). -/
theorem actWindmill_inv (hex : Examines env.config strict free ex)
    (h : Acting env.config strict free old t g r.fans) (hstate : r.fans.groups[g].state = .windmillWait)
    (o : Target) : (r.actWindmill ex env g o t).fans.Inv env.config strict free := by
  have hqueued : r.fans.groups[g].state ≠ .queued := by rw [hstate]; decide
  have hpending : strict → r.fans.groups[g].pending = none := h.pending_none (by rw [hstate]; rfl)
  have hentries := h.entries_nil hqueued fun hs => absurd (hstate.symm.trans hs) (by decide)
  have hdone : strict → ¬free g → ∀ x ∈ r.fans.groups[g].pending, x = t := fun hs _ => by
    rw [hpending hs]
    simp
  unfold FanRun.actWindmill
  split
  · exact backToOff_inv h (.inl hstate) none (by simp)
  · split
    · exact backToOff_inv h (.inl hstate) (some t) (by simp)
    · split
      · split
        · have hfit := h.modGroup (f := fun f =>
            { f with windmill := Timer.seconds (env.config g).windmillWait }) (fun _ => ⟨rfl, rfl, rfl⟩) (by
              obtain ⟨hdriven, hidle, htrip, hstart, hstageUp, hrun, hcoast, -⟩ := h.sound
              exact ⟨⟨hdriven, hidle, htrip, hstart, hstageUp, hrun, hcoast, fun _ => hstate⟩,
                h.before.single, h.before.admits, h.before.slot, h.before.starting, h.before.presented,
                h.before.pending, fun hs => { h.before.account hs with }⟩)
          refine hfit.done ?_ ?_ <;> rw [Fans.modGroup_self]
          · exact hqueued
          · exact hdone
        · exact enterQueued_inv hex h ⟨.inr (.inl hstate), hentries, hpending⟩
      · exact h.done hqueued hdone

end

end Sys2Proof.Machine
end

section
/-!
What a target that acts on a group, a contact, a timer or a grant makes of it keeps the invariant of the
groups (chapters 5 and 6).
-/

namespace Sys2Proof.Machine

/-! ### Leaving STARTING and RUNNING (R83, R84, R100) -/

/-- A machine as a stage-down leaves it (R83). -/
def Fan.lowered (c : GroupConfig) (f : Fan) : Fan :=
  { f with high := false, stage := 1, stageUp := none, draw := c.i1,
           reserveTaken := min f.reserveTaken c.i1 }

/-- A machine as its shut-down leaves it, its state not yet left (R84, R100). -/
def Fan.shut (f : Fan) : Fan :=
  { f with leg := none, draw := 0, reserveZone := none, reserveTaken := 0, fwd := false, rev := false,
           high := false, stage := 0, start := none, stageUp := none, runMin := none }

theorem Fan.not_driven_of_queued {f : Fan} (h : f.state = .queued) : f.driven = false := by
  simp [Fan.driven, h]

theorem Fan.driven_of_starting {f : Fan} (h : f.state = .starting) : f.driven = true := by
  simp [Fan.driven, h]

theorem Fan.driven_of_running {f : Fan} (h : f.state = .running) : f.driven = true := by
  simp [Fan.driven, h]

/-- An idle machine has no supply record to clear. -/
theorem Fan.Idle.undrawn {f : Fan} (h : f.Idle) :
    f = { f with leg := none, draw := 0, reserveZone := none, reserveTaken := 0 } := by
  obtain ⟨hleg, hdraw, hzone, htaken⟩ := h.supply
  cases f
  simp_all

theorem all_of_none {α : Type} {p : Option α} {P : α → Prop} (h : p = none) : ∀ x ∈ p, P x := by
  simp [h]

theorem GroupConfig.current_two {c : GroupConfig} (h : c.highPresent = true) : c.current 2 = c.i2 := by
  simp [GroupConfig.current, GroupConfig.needed, h]

theorem GroupConfig.current_congr {c : GroupConfig} {a b : Nat} (h : c.needed a = c.needed b) :
    c.current a = c.current b := by
  rw [GroupConfig.current, GroupConfig.current, h]

theorem GroupConfig.needed_needed (c : GroupConfig) (a : Nat) : c.needed (c.needed a) = c.needed a := by
  by_cases ha : a = 2 ∧ ¬ c.highPresent
  · simp [GroupConfig.needed, ha]
  · rw [show c.needed a = a from if_neg ha, show c.needed a = a from if_neg ha]

theorem GroupConfig.needed_le {c : GroupConfig} {a : Nat} (h : a ≤ 2) : c.needed a ≤ 2 := by
  unfold GroupConfig.needed
  split <;> omega

theorem GroupConfig.highPresent_of_needed {c : GroupConfig} {a : Nat} (h : c.needed a = 2) :
    c.highPresent = true := by
  unfold GroupConfig.needed at h
  by_contra hc
  split at h
  · cases h
  next hn => exact hn ⟨h, hc⟩

/-- A group at stage 2 goes down to stage 1 (R83). -/
theorem GroupFit.lowered {c : GroupConfig} {strict un : Prop} {f : Fan} {q : List StartEntry}
    {h : Option Purpose} (hfit : GroupFit c strict un f q h) (hd : f.driven = true) :
    GroupFit c strict un (f.lowered c) [] (if f.state = .running then none else h) where
  sound := by
    obtain ⟨hdriven, -, htrip, hstart, -, hrun, hcoast, hwindmill⟩ := hfit.sound
    obtain ⟨hfwd, hrev, -, -, hleg⟩ := hdriven hd
    exact ⟨fun _ => ⟨hfwd, hrev, by simp [Fan.lowered], by simp [Fan.lowered], hleg⟩,
      fun hnot => absurd (hd.symm.trans hnot) (by decide), htrip, hstart, by simp [Fan.lowered], hrun, hcoast,
      hwindmill⟩
  single := by simp
  admits := by simp
  slot p hp := by
    split at hp
    · cases hp
    · exact hfit.slot p hp
  starting hs := by
    have hs' : f.state = .starting := hs
    rw [if_neg (by rw [hs']; decide)]
    exact hfit.starting hs'
  presented := hfit.presented
  pending := hfit.pending
  account hs := by
    have haccount := hfit.account hs
    exact ⟨haccount.config, Nat.min_le_right _ _, fun _ => ⟨rfl, by simp [Fan.lowered]⟩, haccount.mayPend,
      haccount.pending, by simp⟩

section
variable {env : FanEnv} {strict : Prop} {free : Fin 4 → Prop} {old t : Target} {g : Fin 4} {r : FanRun}
  {ex : FanRun → FanRun}

theorem stageDown_acting (h : Acting env.config strict free old t g r.fans)
    (hd : r.fans.groups[g].driven = true) (h2 : r.fans.groups[g].stage = 2) :
    Acting env.config strict free old t g (r.stageDown env g).fans ∧
      (r.stageDown env g).fans.groups[g] = r.fans.groups[g].lowered (env.config g) ∧
      (r.stageDown env g).fans.entriesOf g = [] := by
  obtain ⟨hqueue, hslot, hgroups⟩ := r.fans.returnStage_frame env g
  obtain ⟨hdriven, -⟩ := h.sound
  obtain ⟨-, -, -, -, hleg⟩ := hdriven hd
  have hreturned := h.others.returnStage env
    (fun hs => by
      obtain ⟨hdraw, hhigh⟩ := (h.before.account hs).draw hd
      exact hdraw.trans ((congrArg _ h2).trans (GroupConfig.current_two (hhigh h2))))
    (fun hs => (h.before.account hs).config) (fun hs => (h.before.account hs).taken)
  have hfan : (r.fans.returnStage env g).groups[g] = { r.fans.groups[g] with
      draw := (env.config g).i1, reserveTaken := min r.fans.groups[g].reserveTaken (env.config g).i1 } := by
    simp only [hgroups, if_neg (Option.isSome_iff_ne_none.1 hleg)]
    exact upd_self _ _ _
  have hentries : r.fans.entriesOf g = [] := by
    refine h.before.entries_nil (fun hs => ?_) fun _ h1 => ?_
    · exact absurd (hd.symm.trans (Fan.not_driven_of_queued hs)) (by decide)
    · exact absurd (h2.symm.trans h1) (by decide)
  have hdown : (r.stageDown env g).fans = (if r.fans.groups[g].state = .running then
      (r.fans.returnStage env g).releaseSlot g else r.fans.returnStage env g).modGroup g
        fun f => { f with high := false, stage := 1, stageUp := none } := by
    simp only [FanRun.stageDown, FanRun.modFan, FanRun.modFans, FanRun.fan, beq_iff_eq]
  obtain ⟨hothers, hfan', hentries', hholds⟩ :
      Fans.Others env.config strict free g (if r.fans.groups[g].state = .running then
        (r.fans.returnStage env g).releaseSlot g else r.fans.returnStage env g) ∧
      (if r.fans.groups[g].state = .running then
        (r.fans.returnStage env g).releaseSlot g else r.fans.returnStage env g).groups[g] =
          (r.fans.returnStage env g).groups[g] ∧
      (if r.fans.groups[g].state = .running then
        (r.fans.returnStage env g).releaseSlot g else r.fans.returnStage env g).entriesOf g = [] ∧
      (if r.fans.groups[g].state = .running then
        (r.fans.returnStage env g).releaseSlot g else r.fans.returnStage env g).holds g =
          if r.fans.groups[g].state = .running then none else r.fans.holds g := by
    split
    · refine ⟨hreturned.releaseSlot, ?_, ?_, Fans.holds_releaseSlot_self _ _⟩
      · simp
      · rw [Fans.entriesOf_releaseSlot, Fans.entriesOf, hqueue]
        exact hentries
    · refine ⟨hreturned, rfl, ?_, ?_⟩
      · rw [Fans.entriesOf, hqueue]
        exact hentries
      · rw [Fans.holds, hslot]
        rfl
  have hself : (r.stageDown env g).fans.groups[g] = r.fans.groups[g].lowered (env.config g) := by
    simp only [hdown]
    rw [Fans.modGroup_self, hfan', hfan]
    rfl
  have hnone : (r.stageDown env g).fans.entriesOf g = [] := by
    rw [hdown]
    exact hentries'
  refine ⟨⟨?_, ?_, h.low, ?_, ?_⟩, hself, hnone⟩
  · rw [hdown]
    exact hothers.modGroup fun _ => ⟨rfl, rfl⟩
  · rw [hself, hnone, hdown, Fans.holds_modGroup, hholds]
    exact h.before.lowered hd
  · rw [hself]
    exact h.presented
  · rw [hself]
    exact h.target

/-- The shut-down of a group, which then draws nothing, waits in no queue and holds no slot. -/
theorem shutDown_spec (ho : r.fans.Others env.config strict free g) (hsound : r.fans.groups[g].Sound)
    (htaken : strict → r.fans.groups[g].reserveTaken ≤ r.fans.groups[g].draw) :
    (r.shutDown env g).fans.Others env.config strict free g ∧
      (r.shutDown env g).fans.groups[g] = r.fans.groups[g].shut ∧
      (r.shutDown env g).fans.entriesOf g = [] ∧ (r.shutDown env g).fans.holds g = none := by
  obtain ⟨-, -, -, hgroups⟩ := r.fans.returnDraw_frame env g
  refine ⟨((ho.returnDraw env htaken).removeEntry.releaseSlot).modGroup fun _ => ⟨rfl, rfl⟩, ?_, ?_, ?_⟩
  · refine (Fans.modGroup_self _ _ _).trans ?_
    have hreturned : (((r.fans.returnDraw env g).removeEntry g).releaseSlot g).groups[g] =
        { r.fans.groups[g] with leg := none, draw := 0, reserveZone := none, reserveTaken := 0 } := by
      simp only [Fans.releaseSlot_groups, Fans.removeEntry_groups, hgroups]
      split
      next hleg =>
        have hnot : r.fans.groups[g].driven = false := by
          obtain ⟨hdriven, -⟩ := hsound
          by_contra hd
          obtain ⟨-, -, -, -, hsome⟩ := hdriven (Bool.not_eq_false _ ▸ hd)
          exact absurd hleg (Option.isSome_iff_ne_none.1 hsome)
        exact (hsound.idle hnot).undrawn
      next => exact upd_self _ _ _
    exact congrArg (fun f : Fan => { f with
      fwd := false, rev := false, high := false, stage := 0, start := none, stageUp := none,
      runMin := none }) hreturned
  · change Fans.entriesOf (((r.fans.returnDraw env g).removeEntry g).releaseSlot g) g = []
    rw [Fans.entriesOf_releaseSlot, Fans.entriesOf_removeEntry_self]
  · exact Fans.holds_releaseSlot_self _ _

/-- A group that is shut down and takes an idle state with no cause of its own. -/
theorem shutDown_inv (ho : r.fans.Others env.config strict free g) (hsound : r.fans.groups[g].Sound)
    (htaken : strict → r.fans.groups[g].reserveTaken ≤ r.fans.groups[g].draw)
    (hi : strict → (env.config g).i1 ≤ (env.config g).i2) (hpresented : r.fans.groups[g].presented.stage ≤ 2)
    {f : Fan → Fan} (hf : ∀ x, (f x).leg = x.leg ∧ (f x).draw = x.draw)
    (hidle : (f r.fans.groups[g].shut).Idle) (hfsound : (f r.fans.groups[g].shut).Sound)
    (hfpresented : (f r.fans.groups[g].shut).presented = r.fans.groups[g].presented)
    (hfpending : ∀ t ∈ (f r.fans.groups[g].shut).pending, t.stage ≤ 2 ∧
      (f r.fans.groups[g].shut).state.mayPend = true ∧
      (strict → ¬free g → t = r.fans.groups[g].presented)) :
    ((r.shutDown env g).fans.modGroup g f).Inv env.config strict free := by
  obtain ⟨hothers, hfan, hentries, hholds⟩ := shutDown_spec ho hsound htaken
  refine (hothers.modGroup hf).inv ?_
  rw [Fans.modGroup_self, Fans.entriesOf_modGroup, Fans.holds_modGroup, hfan, hentries, hholds]
  refine .idle hidle hfsound (by simp) (by simp) (by rw [hfpresented]; exact hpresented)
    (fun t ht => (hfpending t ht).1) fun hs => ⟨hi hs, fun hsome => ?_, fun hfree t ht => ?_, by simp⟩
  · obtain ⟨t, ht⟩ := Option.isSome_iff_exists.1 hsome
    exact (hfpending t ht).2.1
  · rw [hfpresented]
    exact (hfpending t ht).2.2 hs hfree

/-- A driven group holds no trip cause and waits on no airflow. -/
theorem Fan.Sound.driven_plain {f : Fan} (h : f.Sound) (hd : f.driven = true) :
    f.tripCause = none ∧ f.windmill = none ∧ f.coast = none := by
  obtain ⟨-, -, htrip, -, -, -, hcoast, hwindmill⟩ := h
  have hstate : f.state = .starting ∨ f.state = .running := by simpa [Fan.driven] using hd
  refine ⟨?_, ?_, ?_⟩ <;> refine Option.not_isSome_iff_eq_none.1 fun hsome => ?_
  · have := htrip.1 hsome
    obtain hs | hs := hstate <;> rw [hs] at this <;> cases this
  · have := hwindmill hsome
    obtain hs | hs := hstate <;> rw [hs] at this <;> cases this
  · have := hcoast hsome
    obtain hs | hs := hstate <;> rw [hs] at this <;> simp at this

/-- A driven group stops and keeps a target, or none (R111). -/
theorem enterStopping_inv (h : Acting env.config strict free old t g r.fans)
    (hd : r.fans.groups[g].driven = true) (c : StopCause) (keep : Option Target)
    (hlow : ∀ x ∈ keep, x.stage ≤ 2)
    (hkeep : strict → ¬free g → ∀ x ∈ keep, x = r.fans.groups[g].presented) :
    (r.enterStopping env g c keep).fans.Inv env.config strict free := by
  obtain ⟨htrip, hwindmill, -⟩ := h.sound.driven_plain hd
  have hidle : Fan.Idle { r.fans.groups[g].shut with
      state := .stopping, pending := keep, coast := Timer.seconds (env.config g).coastTime } :=
    ⟨rfl, ⟨rfl, rfl, rfl, rfl⟩, ⟨rfl, rfl, rfl, rfl⟩, rfl, rfl, rfl⟩
  refine shutDown_inv h.others h.sound (fun hs => (h.before.account hs).taken)
    (fun hs => (h.before.account hs).config) h.presented (fun _ => ⟨rfl, rfl⟩) hidle
    (hidle.sound ?_ (fun _ => .inl rfl) ?_) rfl fun x hx => ⟨hlow x hx, rfl, fun hs hf => hkeep hs hf x hx⟩
  · simpa [Fan.shut] using htrip
  · simpa [Fan.shut] using hwindmill

/-- A driven group trips (R107, R110, R112). -/
theorem trip_inv (h : r.fans.Inv env.config strict free) (hd : r.fans.groups[g].driven = true)
    (c : TripCause) : (r.trip env g c).fans.Inv env.config strict free := by
  have hfit := h.fit g
  obtain ⟨-, hwindmill, -⟩ := hfit.sound.driven_plain hd
  have hidle : Fan.Idle { r.fans.groups[g].shut with
      state := .tripped, tripCause := some c, pending := none,
      coast := Timer.seconds (env.config g).coastTime } :=
    ⟨rfl, ⟨rfl, rfl, rfl, rfl⟩, ⟨rfl, rfl, rfl, rfl⟩, rfl, rfl, rfl⟩
  have htripped := shutDown_inv (h.others g) hfit.sound (fun hs => (hfit.account hs).taken)
    (fun hs => (hfit.account hs).config) hfit.presented
    (f := fun f => { f with state := .tripped, tripCause := some c, pending := none,
                            coast := Timer.seconds (env.config g).coastTime }) (fun _ => ⟨rfl, rfl⟩) hidle
    (hidle.sound (by simp) (fun _ => .inr rfl) (by simpa [Fan.shut] using hwindmill)) rfl (by simp)
  cases c <;> exact htripped

/-- A group is locked (R114). -/
theorem lock_inv (h : r.fans.Inv env.config strict free) :
    (r.lock env g).fans.Inv env.config strict free := by
  have hfit := h.fit g
  have hidle : Fan.Idle { r.fans.groups[g].shut with
      state := .locked, pending := none, tripCause := none, coast := none, rest := none,
      windmill := none } := ⟨rfl, ⟨rfl, rfl, rfl, rfl⟩, ⟨rfl, rfl, rfl, rfl⟩, rfl, rfl, rfl⟩
  exact shutDown_inv (h.others g) hfit.sound (fun hs => (hfit.account hs).taken)
    (fun hs => (hfit.account hs).config) hfit.presented (fun _ => ⟨rfl, rfl⟩) hidle
    (hidle.sound (by simp) (by simp) (by simp)) rfl (by simp)

/-! ### A change of effective target (R98 to R109) -/

/-- The entry of a group, if it has one, is its only one. -/
theorem entryOf_eq {F : Fans} {q : List StartEntry} (hq : F.entriesOf g = q) : F.entryOf g = q.head? := by
  rw [← hq, Fans.entryOf, Fans.entriesOf, List.head?_filter]

/-- A change of effective target in QUEUED (R105). -/
theorem actQueued_inv (hex : Examines env.config strict free ex)
    (h : Acting env.config strict free old t g r.fans) (hstate : r.fans.groups[g].state = .queued) :
    (r.actQueued ex env g old t).fans.Inv env.config strict free := by
  have hpending : strict → r.fans.groups[g].pending = none := h.pending_none (by rw [hstate]; rfl)
  have hremoved := h.removeEntry
  unfold FanRun.actQueued
  split
  · exact backToOff_inv h (.inr hstate) none (by simp)
  · split
    · exact backToOff_inv h (.inr hstate) (some t) (by simp)
    · split
      · exact airflowCheck_inv hex (r := r.modFans fun F => F.removeEntry g) hremoved
          ⟨.inr (.inr hstate), Fans.entriesOf_removeEntry_self _ _, hpending⟩
      · dsimp only
        split
        · refine hex.inv ?_
          rw [FanRun.joinEntry_fans]
          exact hremoved.joined hstate (Fans.entriesOf_removeEntry_self _ _) hpending
        next hmoved =>
          have hpriority : ∀ x ∈ r.fans.queue, x.group = g → x.priority = t.authority := by
            intro x hx hg
            have hmem : x ∈ r.fans.entriesOf g := Fans.mem_entriesOf.2 ⟨hx, hg⟩
            obtain ⟨y, hy⟩ : ∃ y, r.fans.entriesOf g = [y] := by
              obtain ⟨y, q, hyq⟩ := List.exists_cons_of_ne_nil (List.ne_nil_of_mem hmem)
              have hsingle := h.before.single
              rw [hyq] at hsingle
              have hq : q = [] := List.length_eq_zero_iff.1 (by simpa using hsingle)
              exact ⟨y, hq ▸ hyq⟩
            rw [hy] at hmem
            rw [entryOf_eq hy] at hmoved
            rw [List.mem_singleton.1 hmem]
            simpa using hmoved
          split
          · refine hex.inv ?_
            rw [FanRun.answer_fans]
            have hchange := Fans.entriesOf_change_self (F := r.fans) (e := startEntry env g t) (g := g) rfl
            refine (h.others.change (e := startEntry env g t) rfl hpriority).inv ?_
            refine Eq.mpr (congrArg (fun q => GroupFit _ _ _ r.fans.groups[g] q (r.fans.holds g)) hchange) ?_
            have hstart : ∀ e ∈ (r.fans.entriesOf g).map fun _ => startEntry env g t,
                e = startEntry env g t := by simp
            refine ⟨h.sound, by simpa using h.before.single, fun e he => ?_, h.before.slot, h.before.starting,
              h.presented, h.before.pending, fun hs => { h.before.account hs with
                asks := fun e he => ?_, pending := fun _ => all_of_none (hpending hs) }⟩
            · rw [hstart e he]
              exact hstate
            · rw [hstart e he]
              simp only [Fan.asks, startEntry, h.target hs]
          next hneeded =>
            refine h.others.inv ⟨h.sound, h.before.single, h.before.admits, h.before.slot, h.before.starting,
              h.presented, h.before.pending, fun hs => { h.before.account hs with
                asks := fun e he => ?_, pending := fun _ => all_of_none (hpending hs) }⟩
            · have hasks := (h.before.account hs).asks e he
              have hadmits := h.before.admits e he
              unfold Fan.asks at hasks ⊢
              unfold Fan.admits at hadmits
              cases hp : e.purpose with
              | start =>
                rw [hp] at hasks
                rw [h.target hs]
                exact hasks.trans (GroupConfig.current_congr (not_not.1 hneeded)).symm
              | stageUp =>
                rw [hp] at hadmits
                exact absurd (hstate.symm.trans hadmits.1) (by decide)

/-- A change of effective target in STARTING (R106). -/
theorem actStarting_inv (hex : Examines env.config strict free ex)
    (h : Acting env.config strict free old t g r.fans) (hstate : r.fans.groups[g].state = .starting) :
    (r.actStarting ex env g t).fans.Inv env.config strict free := by
  have hd : r.fans.groups[g].driven = true := Fan.driven_of_starting hstate
  have hqueued : r.fans.groups[g].state ≠ .queued := by rw [hstate]; decide
  have hmay : r.fans.groups[g].state.mayPend = true := by rw [hstate]; rfl
  have hlower : r.fans.groups[g].stage = 2 → ∀ x : Option Target, (∀ y ∈ x, y = t) →
      ((r.stageDown env g).fans.modGroup g fun f => { f with pending := x }).Inv env.config strict free := by
    intro h2 x hx
    obtain ⟨hdown, hfan, -⟩ := stageDown_acting h hd h2
    have hstate' : (r.stageDown env g).fans.groups[g].state = .starting :=
      (congrArg Fan.state hfan).trans hstate
    exact hdown.pend x hx (fun _ => by rw [hstate']; rfl) (by rw [hstate']; decide)
  unfold FanRun.actStarting
  dsimp only
  split
  next h2 => exact hex.inv (hlower h2.1 none (by simp))
  next =>
    split
    next h2 => exact hex.inv (hlower h2.1 (some t) (by simp))
    next => exact h.pend (some t) (by simp) (fun _ => hmay) hqueued

theorem actStop_inv (hex : Examines env.config strict free ex)
    (h : Acting env.config strict free old t g r.fans) (hstate : r.fans.groups[g].state = .running) :
    (r.actStop ex env g t).fans.Inv env.config strict free := by
  have hd : r.fans.groups[g].driven = true := Fan.driven_of_running hstate
  have hremoved := h.removeEntry
  unfold FanRun.actStop
  dsimp only
  split
  · exact hremoved.pend (some t) (by simp)
      (fun _ => congrArg GroupState.mayPend hstate) (by rw [Fans.removeEntry_groups, hstate]; decide)
  · split
    · exact hex.inv (enterStopping_inv (r := r.modFans fun F => F.removeEntry g) hremoved hd _ none
        (by simp) (by simp))
    · refine hex.inv (enterStopping_inv (r := r.modFans fun F => F.removeEntry g) hremoved hd _ (some t)
        (by simpa using h.low) fun hs _ x hx => ?_)
      cases hx
      exact (hremoved.target hs).symm

/-- The STAGE_UP entry of a group that runs at stage 1 joins (R109). -/
theorem Acting.joinedStageUp {F : Fans} (h : Acting env.config strict free old t g F)
    (hrunning : F.groups[g].state = .running) (h1 : F.groups[g].stage = 1)
    (hneeded : env.needed g t = 2) (hentries : F.entriesOf g = [])
    (hpending : F.groups[g].pending = none) :
    Fans.Inv env.config strict free { F with queue := joinQueue F.queue (stageUpEntry env g t) } := by
  have hjoin := Fans.entriesOf_join_self (e := stageUpEntry env g t) hentries
  refine (h.others.join (e := stageUpEntry env g t) rfl).inv ?_
  refine Eq.mpr (congrArg (fun q => GroupFit _ _ _ F.groups[g] q (F.holds g)) hjoin) ?_
  refine ⟨h.sound, by simp, ?_, h.before.slot, h.before.starting, h.presented, h.before.pending, fun hs =>
    { h.before.account hs with asks := ?_, pending := fun _ => all_of_none hpending }⟩
  · intro e he
    rw [List.mem_singleton.1 he]
    exact ⟨hrunning, h1⟩
  · intro e he
    rw [List.mem_singleton.1 he]
    exact ⟨GroupConfig.highPresent_of_needed hneeded, rfl⟩

theorem actRunOn_inv (hex : Examines env.config strict free ex)
    (h : Acting env.config strict free old t g r.fans) (hstate : r.fans.groups[g].state = .running) :
    (r.actRunOn ex env g t).fans.Inv env.config strict free := by
  have hself := r.fans.modGroup_self g fun f => { f with pending := none }
  have hcleared := h.setPending none (by simp) (by simp)
  have hrunning := (congrArg Fan.state hself).trans hstate
  have hqueued : (r.fans.modGroup g fun f => { f with pending := none }).groups[g].state ≠ .queued := by
    rw [hrunning]
    decide
  have hpending := congrArg Fan.pending hself
  have hd : (r.fans.modGroup g fun f => { f with pending := none }).groups[g].driven = true :=
    Fan.driven_of_running hrunning
  have hinv := h.pend none (by simp) (by simp) (by rw [hstate]; decide)
  have hremoved := hcleared.removeEntry
  unfold FanRun.actRunOn
  dsimp only
  split
  next hup =>
    split
    next hnone =>
      refine hex.inv ?_
      rw [FanRun.joinEntry_fans]
      refine hcleared.joinedStageUp hrunning hup.2 hup.1 ?_ hpending
      exact List.filter_eq_nil_iff.2 fun x hx => by simpa using (List.find?_eq_none.1 hnone) x hx
    next =>
      split
      · exact hinv
      · refine hex.inv ?_
        rw [FanRun.joinEntry_fans]
        exact hremoved.joinedStageUp hrunning hup.2 hup.1 (Fans.entriesOf_removeEntry_self _ _) hpending
  next =>
    split
    next hdown =>
      obtain ⟨hlowered, hfan, -⟩ := stageDown_acting
        (r := r.modFan g fun f => { f with pending := none }) hcleared hd hdown.2
      refine hex.inv (hlowered.done ?_ fun _ _ => all_of_none ?_) <;> rw [hfan]
      · exact hqueued
      · exact hpending
    next =>
      split
      · exact hremoved.done hqueued fun _ _ => all_of_none hpending
      · exact hinv

/-- A change of effective target in RUNNING (R108, R109). -/
theorem actRunning_inv (hex : Examines env.config strict free ex)
    (h : Acting env.config strict free old t g r.fans) (hstate : r.fans.groups[g].state = .running) :
    (r.actRunning ex env g t).fans.Inv env.config strict free := by
  unfold FanRun.actRunning
  split
  · exact actStop_inv hex h hstate
  · exact actRunOn_inv hex h hstate

/-- The effective target acts on a group in its present state (R98). -/
theorem act_inv (hex : Examines env.config strict free ex)
    (h : Acting env.config strict free old t g r.fans) :
    (r.act ex env g old t).fans.Inv env.config strict free := by
  unfold FanRun.act
  split
  next hs => exact actOff_inv hex h hs
  next hs => exact actWindmill_inv hex h hs _
  next hs => exact actQueued_inv hex h hs
  next hs => exact actStarting_inv hex h hs
  next hs => exact actRunning_inv hex h hs
  next hs =>
    have hs' : r.fans.groups[g].state = .stopping := hs
    exact h.pend (some t) (by simp) (fun _ => by rw [hs']; rfl) (by rw [hs']; decide)
  next hs =>
    have hs' : r.fans.groups[g].state = .tripped := hs
    exact h.done (by rw [hs']; decide) fun hstrict _ =>
      all_of_none (h.pending_none (by rw [hs']; rfl) hstrict)
  next hs =>
    have hs' : r.fans.groups[g].state = .locked := hs
    exact h.done (by rw [hs']; decide) fun hstrict _ =>
      all_of_none (h.pending_none (by rw [hs']; rfl) hstrict)

/-- A near-door group under the cap goes down to stage 1 (R98). -/
theorem enforceCap_inv (hex : Examines env.config strict free ex) (h : r.fans.Inv env.config strict free) :
    (r.enforceCap ex env g).fans.Inv env.config strict free := by
  unfold FanRun.enforceCap
  dsimp only
  split
  next hcap =>
    obtain ⟨-, h2, hstate⟩ := hcap
    have hd : r.fans.groups[g].driven = true :=
      hstate.elim Fan.driven_of_starting Fan.driven_of_running
    have hfit := h.fit g
    obtain ⟨hdown, hfan, -⟩ := stageDown_acting (h.acting hfit.presented fun _ => rfl) hd h2
    refine hex.inv (hdown.done ?_ fun hs hf x hx => ?_)
    · rw [hfan]
      obtain hs | hs := hstate <;>
        rw [show (Fan.lowered (env.config g) r.fans.groups[g]).state = _ from hs] <;> decide
    · rw [hfan] at hx
      exact (hfit.account hs).pending hf x hx
  next => exact h

end

end Sys2Proof.Machine
end

section
/-!
The arbiter (R90) and the events of a group keep the invariant of the groups.
-/

namespace Sys2Proof.Machine

/-! ### A group without an entry is left alone by an examination -/

/-- The machine of a group is the one given, and it has no entry. -/
abbrev Fans.Apart (g : Fin 4) (f : Fan) (F : Fans) : Prop :=
  F.groups[g] = f ∧ ∀ e ∈ F.queue, e.group ≠ g

theorem Fans.charge_queue (F : Fans) (env : FanEnv) (e : StartEntry) (l : Leg) :
    (F.charge env e l).queue = F.queue := by
  rw [Fans.charge_eq]
  unfold Fans.converted
  split <;> simp [Fans.convert]

theorem Fans.charge_slot (F : Fans) (env : FanEnv) (e : StartEntry) (l : Leg) :
    (F.charge env e l).slot = F.slot := by
  rw [Fans.charge_eq]
  unfold Fans.converted
  split <;> simp [Fans.convert]

theorem Fans.charge_groups_ne (F : Fans) (env : FanEnv) {e : StartEntry} (l : Leg) {k : Fin 4}
    (h : e.group ≠ k) : (F.charge env e l).groups[k] = F.groups[k] := by
  rw [Fans.charge_eq, Fans.modGroup_ne _ _ h]
  simp only [Fans.modLeg_groups, Fans.converted_groups]

theorem Fans.charge_groups_self (F : Fans) (env : FanEnv) (e : StartEntry) (l : Leg) :
    (F.charge env e l).groups[e.group] =
      F.groups[e.group].charged e l (F.convertZone env e l) (min e.current (F.convertible env e l)) := by
  rw [Fans.charge_eq, Fans.modGroup_self]
  simp only [Fans.modLeg_groups, Fans.converted_groups]

theorem Fans.apart_closed (env : FanEnv) (g : Fin 4) (f : Fan) :
    FanClosed env (fun k => k ≠ g) (Fans.Apart g f) where
  group hk _ h := ⟨(Fans.modGroup_ne _ _ hk).trans h.1, h.2⟩
  remove _ h := ⟨h.1, fun e he => h.2 e ((withoutGroup_sublist _ _).subset he)⟩
  join hk h := by
    refine ⟨h.1, fun e he => ?_⟩
    obtain rfl | he := mem_joinQueue.1 he
    · exact hk
    · exact h.2 e he
  change {F k e} hk he h := by
    refine ⟨h.1, fun x hx => ?_⟩
    obtain ⟨y, hy, rfl⟩ := List.mem_map.1 hx
    split
    · exact he ▸ hk
    · exact h.2 y hy
  slot h := h
  choices h := h
  charge hk h := ⟨(Fans.charge_groups_ne _ _ _ hk).trans h.1, by rw [Fans.charge_queue]; exact h.2⟩
  returnDraw {F k} hk h := by
    obtain ⟨hqueue, -, -, hgroups⟩ := F.returnDraw_frame env k
    refine ⟨?_, by rw [hqueue]; exact h.2⟩
    rw [hgroups]
    split
    · exact h.1
    · exact (upd_ne _ _ _ _ hk).trans h.1
  returnStage {F k} hk h := by
    obtain ⟨hqueue, -, hgroups⟩ := F.returnStage_frame env k
    refine ⟨?_, by rw [hqueue]; exact h.2⟩
    rw [hgroups]
    split
    · exact h.1
    · exact (upd_ne _ _ _ _ hk).trans h.1
  queued h := h.2

/-- A group without entries, as its view shows it. -/
theorem Fans.entriesOf_nil {F : Fans} {g : Fin 4} :
    F.entriesOf g = [] ↔ ∀ e ∈ F.queue, e.group ≠ g := by
  simp [Fans.entriesOf, List.filter_eq_nil_iff]

section
variable {env : FanEnv} {strict : Prop} {free : Fin 4 → Prop} {t : Target} {g : Fin 4} {r : FanRun}
  {ex : FanRun → FanRun}

/-! ### STARTING and RUNNING -/

/-- A machine at its entry to RUNNING (R107). -/
def Fan.ran (env : FanEnv) (g : Fin 4) (f : Fan) : Fan :=
  { f with state := .running, start := none, runMin := Timer.seconds (env.config g).runMin }

theorem GroupFit.ran {c : GroupConfig} {un : Prop} {f : Fan} {q : List StartEntry} {h : Option Purpose}
    (hfit : GroupFit c strict un f q h) (hstate : f.state = .starting) :
    GroupFit c strict un (f.ran env g) [] none := by
  have hdriven := Fan.driven_of_starting hstate
  obtain ⟨htrip, hwindmill, hcoast⟩ := hfit.sound.driven_plain hdriven
  have hstageUp : f.stageUp = none := by
    obtain ⟨-, -, -, -, hrunning, -⟩ := hfit.sound
    exact Option.not_isSome_iff_eq_none.1 fun hsome => absurd (hstate.symm.trans (hrunning hsome)) (by decide)
  have hsound : (f.ran env g).Sound := by
    obtain ⟨hdrives, -⟩ := hfit.sound
    exact ⟨fun _ => hdrives hdriven, by simp [Fan.driven, Fan.ran], by simp [Fan.ran, htrip], by simp [Fan.ran],
      by simp [Fan.ran], by simp [Fan.ran], by simp [Fan.ran, hcoast], by simp [Fan.ran, hwindmill]⟩
  exact ⟨hsound, by simp, by simp, by simp, by simp [Fan.ran], hfit.presented, hfit.pending, fun hs =>
    { config := (hfit.account hs).config, taken := (hfit.account hs).taken,
      draw := fun _ => (hfit.account hs).draw hdriven, mayPend := fun _ => rfl,
      pending := (hfit.account hs).pending, asks := by simp }⟩

/-- A STARTING group enters RUNNING (R107). -/
theorem enterRunning_inv (hex : Examines env.config strict free ex) (hheld : free g → env.held = true)
    (h : r.fans.Inv env.config strict free) (hstate : r.fans.groups[g].state = .starting) :
    (r.enterRunning ex env g).fans.Inv env.config strict free := by
  have hentries : r.fans.entriesOf g = [] := (h.fit g).entries_nil (by rw [hstate]; decide)
    fun hs => absurd (hstate.symm.trans hs) (by decide)
  have hself : ((r.fans.releaseSlot g).modGroup g (Fan.ran env g)).groups[g] =
      r.fans.groups[g].ran env g := by
    rw [Fans.modGroup_self]
    simp only [Fans.releaseSlot_groups]
  have hran : ((r.fans.releaseSlot g).modGroup g (Fan.ran env g)).Inv env.config strict free := by
    refine ((h.others g).releaseSlot.modGroup (f := Fan.ran env g) fun _ => ⟨rfl, rfl⟩).inv ?_
    rw [hself, Fans.entriesOf_modGroup, Fans.entriesOf_releaseSlot, Fans.holds_modGroup,
      Fans.holds_releaseSlot_self, hentries]
    exact (h.fit g).ran hstate
  have hnone : ∀ e ∈ (r.fans.releaseSlot g).queue, e.group ≠ g :=
    Fans.entriesOf_nil.1 ((Fans.entriesOf_releaseSlot _ _ _).trans hentries)
  unfold FanRun.enterRunning
  dsimp only
  generalize hrun : FanRun.raise .fanRunning g .info _ _ = r'
  have hfans : r'.fans = (r.fans.releaseSlot g).modGroup g (Fan.ran env g) := by
    rw [← hrun]
    rfl
  have hinv : (ex r').fans.Inv env.config strict free := hex.inv (by rw [hfans]; exact hran)
  have hapart : (ex r').fans.groups[g] = r.fans.groups[g].ran env g := by
    refine (hex.apart (r := r') (g := g) (by rw [hfans]; exact hnone)).1.trans ?_
    simp only [hfans]
    exact hself
  split
  · exact hinv
  next hnot =>
    split
    · exact hinv
    next x hx =>
      have hfree : ¬free g := fun hf => hnot (hheld hf)
      have hfit := hinv.fit g
      have hacting := hinv.acting (g := g) (hfit.pending x hx)
        fun hs => ((hfit.account hs).pending hfree x hx).symm
      refine actRunning_inv hex (hacting.setPending none (by simp) (by simp)) ?_
      refine (congrArg Fan.state (Fans.modGroup_self _ _ _)).trans ?_
      exact congrArg Fan.state hapart

/-- A group that was QUEUED and whose START entry was granted: it is charged and holds the slot, and does
not run yet. -/
structure Granted (cfg : Fin 4 → GroupConfig) (strict : Prop) (free : Fin 4 → Prop) (g : Fin 4)
    (F : Fans) : Prop where
  others : F.Others cfg strict free g
  entries : F.entriesOf g = []
  holds : F.holds g = some .start
  plain : F.groups[g].tripCause = none ∧ F.groups[g].coast = none ∧ F.groups[g].windmill = none
  timers : F.groups[g].start = none ∧ F.groups[g].stageUp = none ∧ F.groups[g].runMin = none
  leg : F.groups[g].leg.isSome = true
  presented : F.groups[g].presented.stage ≤ 2
  pending : ∀ t ∈ F.groups[g].pending, t.stage ≤ 2
  account : strict → (cfg g).i1 ≤ (cfg g).i2 ∧ F.groups[g].reserveTaken ≤ F.groups[g].draw ∧
    F.groups[g].draw = (cfg g).current F.groups[g].presented.stage ∧ F.groups[g].pending = none

/-- A machine at its entry to STARTING (R106). -/
def Fan.started (env : FanEnv) (g : Fin 4) (f : Fan) : Fan :=
  { f with
    state := .starting, stage := env.needed g f.presented, direction := f.presented.direction,
    fwd := f.presented.direction == .eastward, rev := f.presented.direction == .westward,
    high := env.needed g f.presented == 2, rest := none,
    start := Timer.seconds (env.config g).startTime }

theorem Granted.started {F : Fans} (h : Granted env.config strict free g F) :
    (F.modGroup g (Fan.started env g)).Inv env.config strict free := by
  refine (h.others.modGroup (f := Fan.started env g) fun _ => ⟨rfl, rfl⟩).inv ?_
  rw [Fans.modGroup_self, Fans.entriesOf_modGroup, Fans.holds_modGroup, h.entries, h.holds]
  obtain ⟨htrip, hcoast, hwindmill⟩ := h.plain
  obtain ⟨-, hstageUp, hrunMin⟩ := h.timers
  exact {
    sound := ⟨fun _ => ⟨by simp [Fan.started], by simp [Fan.started], by simp [Fan.started],
        GroupConfig.needed_le h.presented, h.leg⟩, by simp [Fan.driven, Fan.started],
      by simpa [Fan.started] using htrip, fun _ => rfl, by simpa [Fan.started] using hstageUp,
      by simpa [Fan.started] using hrunMin, by simpa [Fan.started] using hcoast,
      by simpa [Fan.started] using hwindmill⟩
    single := by simp
    admits := by simp
    slot := by
      intro p hp
      cases hp
      rfl
    starting := fun _ => rfl
    presented := h.presented
    pending := h.pending
    account := fun hs => by
      obtain ⟨hi, htaken, hdraw, hpending⟩ := h.account hs
      exact {
        config := hi
        taken := htaken
        draw := fun _ => ⟨hdraw.trans (GroupConfig.current_congr (GroupConfig.needed_needed _ _)).symm,
          fun h2 => GroupConfig.highPresent_of_needed h2⟩
        mayPend := fun _ => rfl
        pending := fun _ => all_of_none hpending
        asks := by simp } }

/-- A granted group enters STARTING, and acts on the contacts that are already true (R106). -/
theorem enterStarting_inv (hex : Examines env.config strict free ex) (hheld : free g → env.held = true)
    (h : Granted env.config strict free g r.fans) :
    (r.enterStarting ex env g).fans.Inv env.config strict free := by
  have hstarted := h.started
  have hstate : (r.fans.modGroup g (Fan.started env g)).groups[g].state = .starting :=
    congrArg Fan.state (Fans.modGroup_self _ _ _)
  have hchosen : Fans.Inv env.config strict free { r.fans.modGroup g (Fan.started env g) with
      choices := (r.fans.modGroup g (Fan.started env g)).choices + 1 } :=
    (((hstarted.others g).choices _)).inv (hstarted.fit g)
  unfold FanRun.enterStarting
  dsimp only
  split
  · exact hstarted
  · exact enterRunning_inv hex hheld (r := r.modFan g (Fan.started env g)) hstarted hstate
  · exact hex.inv (trip_inv (r := r.modFan g (Fan.started env g)) hstarted
      (Fan.driven_of_starting hstate) _)
  · split
    · exact hex.inv (trip_inv (r := (r.modFan g (Fan.started env g)).modFans fun F =>
        { F with choices := F.choices + 1 }) hchosen (Fan.driven_of_starting hstate) _)
    · have hrunning := enterRunning_inv hex hheld (r := (r.modFan g (Fan.started env g)).modFans fun F =>
        { F with choices := F.choices + 1 }) hchosen hstate
      split
      next hran => exact hex.inv (trip_inv hrunning (Fan.driven_of_running hran) _)
      next => exact hrunning

/-! ### The arbiter (R90) -/

/-- The account as a grant leaves it, the group not yet changed (R90). -/
def Fans.granted (F : Fans) (env : FanEnv) (e : StartEntry) (l : Leg) : Fans :=
  { (F.removeEntry e.group).charge env e l with slot := some (e.group, e.purpose) }

section
variable {F : Fans} {e : StartEntry} {l : Leg}

theorem Fans.granted_self : (F.granted env e l).groups[e.group] =
    F.groups[e.group].charged e l ((F.removeEntry e.group).convertZone env e l)
      (min e.current ((F.removeEntry e.group).convertible env e l)) :=
  Fans.charge_groups_self _ _ _ _

theorem Fans.granted_entries : (F.granted env e l).entriesOf e.group = [] := by
  have hqueue : (F.granted env e l).queue = (F.removeEntry e.group).queue := Fans.charge_queue _ _ _ _
  rw [Fans.entriesOf, hqueue]
  exact Fans.entriesOf_removeEntry_self _ _

theorem Fans.granted_holds : (F.granted env e l).holds e.group = some e.purpose := Fans.holds_some.2 rfl

theorem Fans.Inv.granted_others (h : F.Inv env.config strict free) (hslot : F.slot = none)
    (he : e ∈ F.queue) (htest : F.drawTest env e = some l) :
    (F.granted env e l).Others env.config strict free e.group := by
  have hfit := h.fit e.group
  have hleg : e.purpose = .start → F.groups[e.group].leg = none := by
    intro hpurpose
    have hadmits := hfit.admits e (Fans.mem_entriesOf.2 ⟨he, rfl⟩)
    unfold Fan.admits at hadmits
    rw [hpurpose] at hadmits
    exact (hfit.sound.idle (Fan.not_driven_of_queued hadmits)).supply.1
  have htest' : (F.removeEntry e.group).drawTest env e = some l := htest
  exact ((h.others e.group).removeEntry.charge rfl hleg htest').takeSlot
    ((Fans.charge_slot _ _ _ _).trans hslot) e.purpose

/-- A START that is granted leaves its group charged and ready to start. -/
theorem Fans.Inv.granted (h : F.Inv env.config strict free) (hslot : F.slot = none) (he : e ∈ F.queue)
    (hpurpose : e.purpose = .start) (htest : F.drawTest env e = some l) :
    Granted env.config strict free e.group (F.granted env e l) := by
  have hfit := h.fit e.group
  have hmem : e ∈ F.entriesOf e.group := Fans.mem_entriesOf.2 ⟨he, rfl⟩
  have hqueued : F.groups[e.group].state = .queued := by
    have hadmits := hfit.admits e hmem
    unfold Fan.admits at hadmits
    rwa [hpurpose] at hadmits
  have hself := Fans.granted_self (env := env) (F := F) (e := e) (l := l)
  simp only [Fan.charged, hpurpose] at hself
  obtain ⟨hstart, hstageUp, hrunMin⟩ := (hfit.sound.idle (Fan.not_driven_of_queued hqueued)).timers
  obtain ⟨-, -, htrip, -, -, -, hcoast, hwindmill⟩ := hfit.sound
  have hnone : F.groups[e.group].tripCause = none ∧ F.groups[e.group].coast = none ∧
      F.groups[e.group].windmill = none := by
    refine ⟨?_, ?_, ?_⟩ <;> refine Option.not_isSome_iff_eq_none.1 fun hsome => ?_
    · exact absurd (hqueued.symm.trans (htrip.1 hsome)) (by decide)
    · obtain hs | hs := hcoast hsome <;> exact absurd (hqueued.symm.trans hs) (by decide)
    · exact absurd (hqueued.symm.trans (hwindmill hsome)) (by decide)
  refine ⟨h.granted_others hslot he htest, Fans.granted_entries,
    Fans.granted_holds.trans (congrArg some hpurpose), ?_, ?_, ?_, ?_, ?_, fun hs => ?_⟩ <;> rw [hself]
  · exact hnone
  · exact ⟨hstart, hstageUp, hrunMin⟩
  · rfl
  · exact hfit.presented
  · exact hfit.pending
  · have haccount := hfit.account hs
    have hasks := haccount.asks e hmem
    unfold Fan.asks at hasks
    rw [hpurpose] at hasks
    refine ⟨haccount.config, Nat.min_le_left _ _, hasks, Option.not_isSome_iff_eq_none.1 fun hsome => ?_⟩
    have hmay := haccount.mayPend hsome
    rw [hqueued] at hmay
    cases hmay

/-- A machine as the grant of a STAGE_UP leaves it (R90). -/
def Fan.raised (env : FanEnv) (g : Fin 4) (f : Fan) : Fan :=
  { f with stage := 2, high := true, stageUp := Timer.seconds (env.config g).startTime }

/-- A STAGE_UP that is granted takes its group to stage 2. -/
theorem GroupFit.raised {c : GroupConfig} {un : Prop} {f : Fan} {q : List StartEntry} {h : Option Purpose}
    (hfit : GroupFit c strict un f q h) (he : e ∈ q) (hpurpose : e.purpose = .stageUp)
    (z : Option (Fin 32)) {a : Nat} (ha : a ≤ e.current) :
    GroupFit c strict un ((f.charged e l z a).raised env g) [] (some .stageUp) := by
  obtain ⟨hrunning, h1⟩ : f.state = .running ∧ f.stage = 1 := by
    have hadmits := hfit.admits e he
    unfold Fan.admits at hadmits
    rwa [hpurpose] at hadmits
  have hdriven := Fan.driven_of_running hrunning
  simp only [Fan.charged, hpurpose]
  refine ⟨?_, by simp, by simp, ?_, ?_, hfit.presented, hfit.pending, fun hs => ?_⟩
  · obtain ⟨hdrives, -, htrip, hstart, -, -, hcoast, hwindmill⟩ := hfit.sound
    obtain ⟨hfwd, hrev, -, -, hleg⟩ := hdrives hdriven
    exact ⟨fun _ => ⟨hfwd, hrev, by simp [Fan.raised], by simp [Fan.raised], hleg⟩,
      fun hnot => absurd (hdriven.symm.trans hnot) (by decide), htrip, hstart, fun _ => hrunning,
      fun _ => hrunning, hcoast, hwindmill⟩
  · intro p hp
    cases hp
    exact hrunning
  · exact fun hs => absurd (hrunning.symm.trans hs) (by decide)
  · have haccount := hfit.account hs
    have hasks := haccount.asks e he
    unfold Fan.asks at hasks
    rw [hpurpose] at hasks
    obtain ⟨hhigh, hcurrent⟩ := hasks
    refine ⟨haccount.config, Nat.add_le_add haccount.taken ha, fun _ => ⟨?_, fun _ => hhigh⟩,
      haccount.mayPend, haccount.pending, by simp⟩
    have hdraw : f.draw = c.i1 := (haccount.draw hdriven).1.trans (congrArg c.current h1)
    have hi := haccount.config
    change f.draw + e.current = c.current 2
    rw [GroupConfig.current_two hhigh]
    omega

/-- A grant keeps the invariant (R90). -/
theorem grant_inv (hex : Examines env.config strict free ex) (hheld : ∀ k, free k → env.held = true)
    (h : r.fans.Inv env.config strict free) (hslot : r.fans.slot = none) (he : e ∈ r.fans.queue)
    (htest : r.fans.drawTest env e = some l) : (r.grant ex env e l).fans.Inv env.config strict free := by
  unfold FanRun.grant
  dsimp only
  split
  next hpurpose =>
    exact enterStarting_inv hex (hheld _)
      (r := r.modFans fun F => F.granted env e l) (h.granted hslot he hpurpose htest)
  next hpurpose =>
    refine ((h.granted_others hslot he htest).modGroup (f := Fan.raised env e.group)
      fun _ => ⟨rfl, rfl⟩).inv ?_
    rw [Fans.modGroup_self, Fans.entriesOf_modGroup, Fans.holds_modGroup, Fans.granted_entries,
      Fans.granted_holds, Fans.granted_self, hpurpose]
    exact (h.fit e.group).raised (Fans.mem_entriesOf.2 ⟨he, rfl⟩) hpurpose _ (Nat.min_le_left _ _)

end

theorem examineWith_examines (hheld : ∀ k, free k → env.held = true) (n : Nat) :
    Examines env.config strict free (FanRun.examineWith env n) := by
  induction n with
  | zero => exact examines_id
  | succ n ih =>
    refine ⟨fun {r} h => ?_, fun {r g} h =>
      (Fans.apart_closed env g r.fans.groups[g]).examineWith (n + 1) r ⟨rfl, h⟩⟩
    unfold FanRun.examineWith
    split
    · exact h
    next hfree =>
      split
      · exact h
      next hmet =>
        obtain ⟨he, htest⟩ := Fans.firstMet_mem hmet
        have hslot : r.fans.slot = none := Option.not_isSome_iff_eq_none.1 fun hs => hfree (.inr hs)
        exact grant_inv ih hheld h hslot he htest

/-- An examination of the start queue keeps the invariant (R90, R91). -/
theorem examine_examines (hheld : ∀ k, free k → env.held = true) :
    Examines env.config strict free (FanRun.examine env) :=
  examineWith_examines hheld 8

end

end Sys2Proof.Machine
end

section
/-!
The contacts, the timers, the loss of a leg, the presentation and the release keep the invariant of the
groups, and the presentation leaves every group presented with its effective target (R98, R99).
-/

namespace Sys2Proof.Machine

/-- A machine that differs in its timers, outputs or causes alone fits as before, if it is sound. -/
theorem GroupFit.resound {c : GroupConfig} {strict un : Prop} {f f' : Fan} {q : List StartEntry}
    {h : Option Purpose} (hfit : GroupFit c strict un f q h) (hsound : f'.Sound)
    (hsame : (f'.state, f'.stage, f'.presented, f'.pending, f'.draw, f'.reserveTaken) =
      (f.state, f.stage, f.presented, f.pending, f.draw, f.reserveTaken)) :
    GroupFit c strict un f' q h := by
  simp only [Prod.mk.injEq] at hsame
  obtain ⟨hstate, hstage, hpresented, hpending, hdraw, htaken⟩ := hsame
  have hdriven : f'.driven = f.driven := by rw [Fan.driven, hstate, Fan.driven]
  refine ⟨hsound, hfit.single, fun e he => ?_, fun p hp => ?_, hstate ▸ hfit.starting,
    hpresented ▸ hfit.presented, hpending ▸ hfit.pending, fun hs => ?_⟩
  · simpa only [Fan.admits, hstate, hstage] using hfit.admits e he
  · have hslot := hfit.slot p hp
    cases p <;> simpa only [Fan.slotFor, hstate] using hslot
  · have haccount := hfit.account hs
    refine ⟨haccount.config, by rw [htaken, hdraw]; exact haccount.taken, ?_, ?_, ?_, fun e he => ?_⟩
    · rw [hdriven, hdraw, hstage]
      exact haccount.draw
    · rw [hpending, hstate]
      exact haccount.mayPend
    · rw [hpending, hpresented]
      exact haccount.pending
    · simpa only [Fan.asks, hpresented] using haccount.asks e he

/-- The targets last presented are those given. -/
abbrev Fans.Shown (P : Fin 4 → Target) (F : Fans) : Prop := ∀ k : Fin 4, F.groups[k].presented = P k

theorem Fans.Shown.modGroup {P : Fin 4 → Target} {F : Fans} (h : F.Shown P) {g : Fin 4} {f : Fan → Fan}
    (hf : ∀ x, (f x).presented = x.presented) : (F.modGroup g f).Shown P := by
  intro k
  by_cases hk : g = k
  · subst hk
    rw [Fans.modGroup_self, hf]
    exact h g
  · rw [Fans.modGroup_ne _ _ hk]
    exact h k

theorem Fans.shown_closed (env : FanEnv) (P : Fin 4 → Target) :
    FanClosed env (fun _ => True) (Fans.Shown P) where
  group _ hf h := h.modGroup hf
  remove _ h := h
  join _ h := h
  change _ _ h := h
  slot h := h
  choices h := h
  charge {F e l} _ h := by
    rw [Fans.charge_eq]
    have hbefore : Fans.Shown P ((F.converted env e l).modLeg l fun r =>
        { r with drawn := r.drawn + e.current }) := by
      intro k
      simp only [Fans.modLeg_groups, Fans.converted_groups]
      exact h k
    refine hbefore.modGroup fun x => ?_
    unfold Fan.charged
    split <;> rfl
  returnDraw {F g} _ h := by
    obtain ⟨-, -, -, hgroups⟩ := F.returnDraw_frame env g
    intro k
    simp only [hgroups]
    split
    · exact h k
    · exact h.modGroup (g := g) (f := fun f =>
        { f with leg := none, draw := 0, reserveZone := none, reserveTaken := 0 }) (fun _ => rfl) k
  returnStage {F g} _ h := by
    obtain ⟨-, -, hgroups⟩ := F.returnStage_frame env g
    intro k
    simp only [hgroups]
    split
    · exact h k
    · exact h.modGroup (g := g) (f := fun f => { f with
        draw := (env.config g).i1, reserveTaken := min f.reserveTaken (env.config g).i1 }) (fun _ => rfl) k
  queued _ _ _ := trivial

section
variable {env : FanEnv} {strict : Prop} {free : Fin 4 → Prop} {t : Target} {g : Fin 4} {r : FanRun}
  {ex : FanRun → FanRun}

/-- A change of a group that leaves what the account and the queue read, and keeps it sound. -/
theorem modGroup_inv {F : Fans} (h : F.Inv env.config strict free) {f : Fan → Fan}
    (hsame : ∀ x, ((f x).state, (f x).stage, (f x).presented, (f x).pending, (f x).draw,
      (f x).reserveTaken) = (x.state, x.stage, x.presented, x.pending, x.draw, x.reserveTaken))
    (hleg : ∀ x, (f x).leg = x.leg) (hsound : (f F.groups[g]).Sound) :
    (F.modGroup g f).Inv env.config strict free := by
  refine ((h.others g).modGroup fun x => ⟨hleg x, ?_⟩).inv ?_
  · have hx := hsame x
    simp only [Prod.mk.injEq] at hx
    obtain ⟨-, -, -, -, hdraw, -⟩ := hx
    exact hdraw
  · rw [Fans.modGroup_self, Fans.entriesOf_modGroup, Fans.holds_modGroup]
    exact (h.fit g).resound hsound (hsame _)

/-! ### Contacts and legs (R87, R88, R107, R110, R112, R114) -/

theorem runFeedback_inv (hheld : ∀ k, free k → env.held = true) (h : r.fans.Inv env.config strict free)
    (v : Bool) : (r.runFeedback env g v).fans.Inv env.config strict free := by
  have hex := examine_examines (strict := strict) hheld
  unfold FanRun.runFeedback
  split
  next hs => exact enterRunning_inv hex (hheld _) h hs
  next hs => exact hex.inv (trip_inv h (Fan.driven_of_running hs) _)
  next => exact h

theorem overload_inv (hheld : ∀ k, free k → env.held = true) (h : r.fans.Inv env.config strict free)
    (v : Bool) : (r.overload env g v).fans.Inv env.config strict free := by
  have hex := examine_examines (strict := strict) hheld
  unfold FanRun.overload
  split
  next hs => exact hex.inv (trip_inv h (Fan.driven_of_starting hs) _)
  next hs => exact hex.inv (trip_inv h (Fan.driven_of_running hs) _)
  next => exact h

/-- A group outside STARTING, RUNNING and QUEUED enters STOPPING or OFF with no cause and no windmill
timer. -/
theorem GroupFit.rests {c : GroupConfig} {un : Prop} {f : Fan} {q : List StartEntry} {h : Option Purpose}
    (hfit : GroupFit c strict un f q h) (hdriven : f.driven = false) (hqueued : f.state ≠ .queued)
    {s : GroupState} (hs : s = .stopping ∨ s = .off) (w : Timer) (hw : w.isSome = true → s = .stopping)
    (hwindmill : f.state ≠ .windmillWait) :
    GroupFit c strict un { f with state := s, tripCause := none, coast := w } q h := by
  have hentries := hfit.entries_nil hqueued fun hrun =>
    absurd (hdriven.symm.trans (Fan.driven_of_running hrun)) (by decide)
  have hholds := hfit.holds_none hdriven
  have hidle := hfit.sound.idle hdriven
  obtain ⟨-, -, -, -, -, -, -, hwait⟩ := hfit.sound
  have hnone : f.windmill = none := Option.not_isSome_iff_eq_none.1 fun hsome => hwindmill (hwait hsome)
  have hidle' : Fan.Idle { f with state := s, tripCause := none, coast := w } :=
    ⟨by obtain rfl | rfl := hs <;> rfl, hidle.outputs, hidle.supply, hidle.timers⟩
  rw [hentries, hholds]
  refine .idle hidle' (hidle'.sound ?_ (fun hsome => .inl (hw hsome)) (by simp [hnone])) (by simp) (by simp)
    hfit.presented hfit.pending fun hstrict => ⟨(hfit.account hstrict).config, fun _ => ?_,
      (hfit.account hstrict).pending, by simp⟩
  · obtain rfl | rfl := hs <;> simp
  · obtain rfl | rfl := hs <;> rfl

theorem localSwitch_inv (hheld : ∀ k, free k → env.held = true) (h : r.fans.Inv env.config strict free)
    (v : Bool) : (r.localSwitch env g v).fans.Inv env.config strict free := by
  have hex := examine_examines (strict := strict) hheld
  unfold FanRun.localSwitch
  split
  · split
    · exact h
    · exact hex.inv (lock_inv h)
  · split
    next hlocked =>
      have hlocked' : r.fans.groups[g].state = .locked := hlocked
      have htrip : r.fans.groups[g].tripCause = none := by
        obtain ⟨-, -, htrip, -⟩ := (h.fit g).sound
        exact Option.not_isSome_iff_eq_none.1 fun hsome =>
          absurd (hlocked'.symm.trans (htrip.1 hsome)) (by decide)
      have hfit := (h.fit g).rests (by simp only [Fan.driven, hlocked']; rfl) (by rw [hlocked']; decide)
        (.inl rfl) (Timer.seconds (env.config g).coastTime) (fun _ => rfl)
        (by rw [hlocked']; decide)
      refine ((h.others g).modGroup (f := fun f =>
        { f with state := .stopping, coast := Timer.seconds (env.config g).coastTime })
        fun _ => ⟨rfl, rfl⟩).inv ?_
      rw [Fans.modGroup_self, Fans.entriesOf_modGroup, Fans.holds_modGroup]
      rw [← htrip] at hfit
      exact hfit
    next => exact h

/-- A leg's availability is no part of the account. -/
theorem available_inv {F : Fans} {cfg : Fin 4 → GroupConfig} (h : F.Inv cfg strict free) (l : Leg) (v : Bool) :
    (F.modLeg l fun x => { x with available := v }).Inv cfg strict free := by
  refine ⟨fun k => ?_, ?_, fun hs k => ?_⟩
  · simp only [Fans.modLeg_groups, Fans.entriesOf, Fans.modLeg_queue, Fans.holds, Fans.modLeg_slot]
    exact h.fit k
  · rw [Fans.modLeg_queue]
    exact h.fires
  · unfold Fans.Balanced
    rw [Fans.drawsOn_congr (F.modLeg_groups l _), Fans.reservesOn_congr (F.modLeg_reserves l _)]
    obtain ⟨hdrawn, hreserved, hcapacity⟩ := h.balanced hs k
    by_cases hk : l = k
    · subst hk
      rw [Fans.modLeg_leg]
      exact ⟨hdrawn, hreserved, hcapacity⟩
    · rw [Fans.modLeg_ne _ _ hk]
      exact ⟨hdrawn, hreserved, hcapacity⟩

theorem stopOnLeg_inv (h : r.fans.Inv env.config strict free) (l : Leg) (hlow : (env.target g).stage ≤ 2)
    (htarget : strict → ¬free g → r.fans.groups[g].presented = env.target g) :
    (r.stopOnLeg env l g).fans.Inv env.config strict free := by
  unfold FanRun.stopOnLeg
  dsimp only
  split
  next hstate =>
    refine enterStopping_inv (h.acting (h.fit g).presented fun _ => rfl)
      (hstate.2.elim Fan.driven_of_starting Fan.driven_of_running) _ _ (by simpa using hlow)
      fun hs hf x hx => ?_
    cases hx
    exact (htarget hs hf).symm
  next => exact h

/-- The groups that draw from a lost leg stop (R87). -/
theorem legLost_inv (hheld : ∀ k, free k → env.held = true) (h : r.fans.Inv env.config strict free) (l : Leg)
    (hlow : ∀ k, (env.target k).stage ≤ 2)
    (htarget : strict → ∀ k, ¬free k → r.fans.groups[k].presented = env.target k) :
    (r.legLost env l).fans.Inv env.config strict free := by
  have hstopped := foldl_fans_kept (I := fun F => F.Inv env.config strict free ∧
    F.Shown fun k => r.fans.groups[k].presented) groupIndices (f := fun r g => r.stopOnLeg env l g)
    (r := r.modFans fun F => F.modLeg l fun x => { x with available := false })
    (fun {r'} g h => ⟨stopOnLeg_inv h.1 l (hlow g) fun hs hf => (h.2 g).trans (htarget hs g hf),
      (Fans.shown_closed env _).stopOnLeg l trivial h.2⟩)
    ⟨available_inv h l false, fun k => by
      change (Fans.modLeg _ _ _).groups[k].presented = _
      simp only [Fans.modLeg_groups]⟩
  exact (examine_examines (strict := strict) hheld).inv hstopped.1

/-! ### Timers and TRIP_RESET (section 6.3, R113) -/

theorem startExpired_inv (hheld : ∀ k, free k → env.held = true) (h : r.fans.Inv env.config strict free) :
    (r.startExpired env g).fans.Inv env.config strict free := by
  have hex := examine_examines (strict := strict) hheld
  unfold FanRun.startExpired
  split
  next hs => exact hex.inv (trip_inv h (Fan.driven_of_starting hs) _)
  next =>
    refine modGroup_inv h (fun _ => rfl) (fun _ => rfl) ?_
    obtain ⟨hdriven, hidle, htrip, -, hrest⟩ := (h.fit g).sound
    exact ⟨hdriven, hidle, htrip, by simp, hrest⟩

theorem stageUpExpired_inv (hheld : ∀ k, free k → env.held = true) (h : r.fans.Inv env.config strict free)
    (hrunning : r.fans.groups[g].stageUp.isSome = true) :
    (r.stageUpExpired env g).fans.Inv env.config strict free := by
  refine (examine_examines (strict := strict) hheld).inv ?_
  have hfit := h.fit g
  have hsound : Fan.Sound { r.fans.groups[g] with stageUp := none } := by
    obtain ⟨hdriven, hidle, htrip, hstart, -, hrest⟩ := hfit.sound
    exact ⟨hdriven, hidle, htrip, hstart, by simp, hrest⟩
  have hstate : r.fans.groups[g].state = .running := by
    obtain ⟨-, -, -, -, hstageUp, -⟩ := hfit.sound
    exact hstageUp hrunning
  refine ((h.others g).modGroup (f := fun f => { f with stageUp := none }) fun _ => ⟨rfl, rfl⟩).releaseSlot.inv ?_
  have hresound := hfit.resound hsound rfl
  have hself : ((r.fans.modGroup g fun f => { f with stageUp := none }).releaseSlot g).groups[g] =
      { r.fans.groups[g] with stageUp := none } := by
    simp only [Fans.releaseSlot_groups]
    exact Fans.modGroup_self _ _ _
  rw [hself, Fans.entriesOf_releaseSlot, Fans.holds_releaseSlot_self]
  exact ⟨hsound, hresound.single, hresound.admits, by simp,
    fun hs => absurd (hstate.symm.trans hs) (by decide), hresound.presented, hresound.pending,
    hresound.account⟩

/-- A group enters OFF with its rest timer started, and acts unless it is held (R111, R113). -/
theorem enterOff_inv (hheld : ∀ k, free k → env.held = true) (ho : r.fans.Others env.config strict free g)
    (hfit : GroupFit (env.config g) strict (free g) { r.fans.groups[g] with state := .off }
      (r.fans.entriesOf g) (r.fans.holds g)) (hlow : t.stage ≤ 2)
    (htarget : strict → ¬free g → r.fans.groups[g].presented = t) :
    (r.enterOff env g t).fans.Inv env.config strict free := by
  have hself := r.fans.modGroup_self g fun f =>
    { f with state := .off, rest := Timer.seconds (env.config g).restMin }
  have hoff : (r.fans.modGroup g fun f =>
      { f with state := .off, rest := Timer.seconds (env.config g).restMin }).Inv env.config strict free := by
    refine (ho.modGroup (f := fun f =>
      { f with state := .off, rest := Timer.seconds (env.config g).restMin }) fun _ => ⟨rfl, rfl⟩).inv ?_
    rw [hself, Fans.entriesOf_modGroup, Fans.holds_modGroup]
    exact hfit.resound hfit.sound rfl
  unfold FanRun.enterOff
  dsimp only
  split
  · exact hoff
  next hnot =>
    refine actOff_inv (examine_examines hheld) (hoff.acting hlow fun hs => ?_) (congrArg Fan.state hself)
    exact (congrArg Fan.presented hself).trans (htarget hs fun hf => hnot (hheld g hf))

theorem coastExpired_inv (hheld : ∀ k, free k → env.held = true) (h : r.fans.Inv env.config strict free)
    (hlow : (env.target g).stage ≤ 2)
    (htarget : strict → ¬free g → r.fans.groups[g].presented = env.target g) :
    (r.coastExpired env g).fans.Inv env.config strict free := by
  have hfit := h.fit g
  have hself := r.fans.modGroup_self g fun f => { f with coast := none }
  have hidle : (r.fans.modGroup g fun f => { f with coast := none }).Inv env.config strict free := by
    refine modGroup_inv h (fun _ => rfl) (fun _ => rfl) ?_
    obtain ⟨hdriven, hidle, htrip, hstart, hstageUp, hrun, -, hwindmill⟩ := hfit.sound
    exact ⟨hdriven, hidle, htrip, hstart, hstageUp, hrun, by simp, hwindmill⟩
  unfold FanRun.coastExpired
  dsimp only
  split
  next hstopping =>
    have hstate : r.fans.groups[g].state = .stopping := hstopping
    have htrip : r.fans.groups[g].tripCause = none := by
      obtain ⟨-, -, htrip, -⟩ := hfit.sound
      exact Option.not_isSome_iff_eq_none.1 fun hsome =>
        absurd (hstate.symm.trans (htrip.1 hsome)) (by decide)
    refine enterOff_inv hheld (hidle.others g) ?_ ?_ fun hs hf => ?_
    · change GroupFit _ _ _ { (r.fans.modGroup g _).groups[g] with state := .off } (r.fans.entriesOf g)
        (r.fans.holds g)
      rw [hself]
      have hrests := hfit.rests (by simp only [Fan.driven, hstate]; rfl) (by rw [hstate]; decide) (.inr rfl)
        none (by simp) (by rw [hstate]; decide)
      rw [← htrip] at hrests
      exact hrests
    · unfold FanRun.heldTarget
      cases hp : (r.fan g).pending with
      | none => exact hlow
      | some x => exact hfit.pending x hp
    · refine (congrArg Fan.presented hself).trans ?_
      unfold FanRun.heldTarget
      cases hp : (r.fan g).pending with
      | none => exact htarget hs hf
      | some x => exact ((hfit.account hs).pending hf x hp).symm
  next => exact hidle

theorem restExpired_inv (hheld : ∀ k, free k → env.held = true) (h : r.fans.Inv env.config strict free) :
    (r.restExpired env g).fans.Inv env.config strict free := by
  have hself := r.fans.modGroup_self g fun f => { f with rest := none }
  have hidle : (r.fans.modGroup g fun f => { f with rest := none }).Inv env.config strict free :=
    modGroup_inv h (fun _ => rfl) (fun _ => rfl) (h.fit g).sound
  unfold FanRun.restExpired
  dsimp only
  split
  next x hoff hpending =>
    split
    · exact hidle
    next hnot =>
      have hfit := hidle.fit g
      exact actOff_inv (examine_examines hheld) (hidle.acting (hfit.pending x hpending) fun hs =>
        ((hfit.account hs).pending (fun hf => hnot (hheld g hf)) x hpending).symm) hoff
  next => exact hidle

theorem runMinExpired_inv (hheld : ∀ k, free k → env.held = true) (h : r.fans.Inv env.config strict free) :
    (r.runMinExpired env g).fans.Inv env.config strict free := by
  have hidle : (r.fans.modGroup g fun f => { f with runMin := none }).Inv env.config strict free := by
    refine modGroup_inv h (fun _ => rfl) (fun _ => rfl) ?_
    obtain ⟨hdriven, hidle, htrip, hstart, hstageUp, -, hrest⟩ := (h.fit g).sound
    exact ⟨hdriven, hidle, htrip, hstart, hstageUp, by simp, hrest⟩
  unfold FanRun.runMinExpired
  dsimp only
  split
  next x hrunning hpending =>
    split
    · exact hidle
    next hnot =>
      have hfit := hidle.fit g
      have hacting := hidle.acting (g := g) (hfit.pending x hpending) fun hs =>
        ((hfit.account hs).pending (fun hf => hnot (hheld g hf)) x hpending).symm
      exact actRunning_inv (examine_examines hheld) (hacting.setPending none (by simp) (by simp))
        ((congrArg Fan.state (Fans.modGroup_self _ _ _)).trans hrunning)
  next => exact hidle

/-- A group in WINDMILL_WAIT may enter QUEUED for the target presented last (R104). -/
theorem windmillWait_inv (hex : Examines env.config strict free ex) (h : r.fans.Inv env.config strict free)
    (hstate : r.fans.groups[g].state = .windmillWait) :
    (r.enterQueued ex env g r.fans.groups[g].presented).fans.Inv env.config strict free := by
  have hfit := h.fit g
  refine enterQueued_inv hex (h.acting hfit.presented fun _ => rfl) ⟨.inr (.inl hstate),
    hfit.entries_nil (by rw [hstate]; decide) (fun hs => absurd (hstate.symm.trans hs) (by decide)),
    fun hs => Option.not_isSome_iff_eq_none.1 fun hsome => ?_⟩
  have hmay := (hfit.account hs).mayPend hsome
  rw [hstate] at hmay
  cases hmay

theorem windmillExpired_inv (hheld : ∀ k, free k → env.held = true)
    (h : r.fans.Inv env.config strict free) : (r.windmillExpired env g).fans.Inv env.config strict free := by
  have hidle : (r.fans.modGroup g fun f => { f with windmill := none }).Inv env.config strict free := by
    refine modGroup_inv h (fun _ => rfl) (fun _ => rfl) ?_
    obtain ⟨hdriven, hidle, htrip, hstart, hstageUp, hrun, hcoast, -⟩ := (h.fit g).sound
    exact ⟨hdriven, hidle, htrip, hstart, hstageUp, hrun, hcoast, by simp⟩
  unfold FanRun.windmillExpired
  dsimp only
  split
  next hwait => exact windmillWait_inv (r := (r.modFan g fun f => { f with windmill := none }).raise
      .windmillOverride g .info (env.airMagnitude g)) (examine_examines hheld) hidle hwait.1
  next => exact hidle

theorem recheck_inv (hheld : ∀ k, free k → env.held = true) (h : r.fans.Inv env.config strict free)
    (c : Fin 8) : (r.recheck env c g).fans.Inv env.config strict free := by
  unfold FanRun.recheck
  split
  next hwait => exact windmillWait_inv (examine_examines hheld) h hwait.1
  next => exact h

theorem tripReset_inv (hheld : ∀ k, free k → env.held = true) (h : r.fans.Inv env.config strict free)
    (htripped : r.fans.groups[g].state = .tripped) (hlow : (env.target g).stage ≤ 2)
    (htarget : strict → ¬free g → r.fans.groups[g].presented = env.target g) :
    (r.tripReset env g).fans.Inv env.config strict free := by
  have hself := r.fans.modGroup_self g fun f => { f with tripCause := none }
  have hothers : (r.fans.modGroup g fun f => { f with tripCause := none }).Others env.config strict free g :=
    (h.others g).modGroup fun _ => ⟨rfl, rfl⟩
  have hrests := fun {s : GroupState} hs w hw => (h.fit g).rests (s := s)
    (by simp only [Fan.driven, htripped]; rfl) (by rw [htripped]; decide) hs w hw (by rw [htripped]; decide)
  unfold FanRun.tripReset
  dsimp only
  split
  · refine (hothers.modGroup (f := fun f => { f with state := .stopping }) fun _ => ⟨rfl, rfl⟩).inv ?_
    rw [Fans.modGroup_self, hself]
    exact hrests (.inl rfl) _ fun _ => rfl
  next hcoast =>
    have hnone : r.fans.groups[g].coast = none := by
      refine Option.not_isSome_iff_eq_none.1 fun hsome => hcoast ?_
      exact (congrArg (fun f : Fan => f.coast.isSome) hself).trans hsome
    refine enterOff_inv hheld hothers ?_ hlow fun hs hf =>
      (congrArg Fan.presented hself).trans (htarget hs hf)
    change GroupFit _ _ _ { (r.fans.modGroup g _).groups[g] with state := .off } (r.fans.entriesOf g)
      (r.fans.holds g)
    rw [hself]
    have hoff := hrests (.inr rfl) none (by simp)
    rw [← hnone] at hoff
    exact hoff

/-! ### Every event of the groups -/

theorem fanOp_inv {n : Node} {f : FanEnv → FanRun → FanRun} (hf : FanOp n f)
    (hfans : r.fans = n.fans) (hheld : ∀ k, free k → env.held = true)
    (h : r.fans.Inv env.config strict free) (hlow : ∀ k, (env.target k).stage ≤ 2)
    (htarget : strict → ∀ k, ¬free k → r.fans.groups[k].presented = env.target k) :
    (f env r).fans.Inv env.config strict free := by
  have hex := examine_examines (strict := strict) hheld
  cases hf with
  | examine => exact hex.inv h
  | recheckAll c => exact foldl_fans_kept _ (fun _ h => recheck_inv hheld h c) h
  | runFeedback g v => exact runFeedback_inv hheld h v
  | overload g v => exact overload_inv hheld h v
  | localSwitch g v => exact localSwitch_inv hheld h v
  | legRestored l => exact hex.inv (available_inv h l true)
  | legLost l => exact legLost_inv hheld h l hlow htarget
  | legFirst l v => exact hex.inv (available_inv h l v)
  | startExpired g => exact startExpired_inv hheld h
  | stageUpExpired g hrunning =>
    refine stageUpExpired_inv hheld h ?_
    simp only [hfans]
    exact hrunning
  | coastExpired g => exact coastExpired_inv hheld h (hlow g) fun hs hf => htarget hs g hf
  | restExpired g => exact restExpired_inv hheld h
  | runMinExpired g => exact runMinExpired_inv hheld h
  | windmillExpired g => exact windmillExpired_inv hheld h
  | tripReset g htripped =>
    refine tripReset_inv hheld h ?_ (hlow g) fun hs hf => htarget hs g hf
    simp only [hfans]
    exact htripped

/-! ### Presentation (R98) and release (R99) -/

/-- A group is presented with its effective target: it acts on it, in whatever way `ex` examines. -/
theorem present_acting {old : Target} {F : Fans} (h : F.Inv env.config strict free)
    (hold : F.groups[g].presented = old) (hlow : (env.target g).stage ≤ 2) :
    Acting env.config strict free old (env.target g) g
      (F.modGroup g fun f => { f with presented := env.target g }) := by
  have hself := F.modGroup_self g fun f => { f with presented := env.target g }
  refine ⟨(h.others g).modGroup fun _ => ⟨rfl, rfl⟩, ?_, hlow, ?_, ?_⟩ <;> rw [hself]
  · rw [← hold, Fans.entriesOf_modGroup, Fans.holds_modGroup]
    exact (h.fit g).mono fun hf => absurd trivial hf
  · exact hlow
  · exact fun _ => rfl

theorem presentOne_inv (hheld : ∀ k, free k → env.held = true) (hlow : (env.target g).stage ≤ 2)
    (h : r.fans.Inv env.config strict free) : (r.presentOne env g).fans.Inv env.config strict free := by
  have hex := examine_examines (strict := strict) hheld
  unfold FanRun.presentOne
  dsimp only
  refine enforceCap_inv hex ?_
  split
  · exact h
  · exact act_inv hex (r := r.modFan g fun f => { f with presented := env.target g })
      (present_acting h rfl hlow)

theorem present_inv (hheld : ∀ k, free k → env.held = true) (hlow : ∀ k, (env.target k).stage ≤ 2)
    (h : r.fans.Inv env.config strict free) : (r.present env).fans.Inv env.config strict free := by
  unfold FanRun.present
  split
  · exact h
  · exact foldl_fans_kept _ (fun g h => presentOne_inv hheld (hlow g) h) h

/-- A presentation changes the target presented last of its own group alone. -/
theorem Fans.Shown.present {P : Fin 4 → Target} {F : Fans} (h : F.Shown P) (g : Fin 4) (t : Target) :
    (F.modGroup g fun f => { f with presented := t }).Shown (Function.update P g t) := by
  intro k
  by_cases hk : g = k
  · subst hk
    rw [Fans.modGroup_self, Function.update_self]
  · rw [Fans.modGroup_ne _ _ hk, Function.update_of_ne (Ne.symm hk)]
    exact h k

theorem presentOne_shown {P : Fin 4 → Target} (h : r.fans.Shown P) :
    (r.presentOne env g).fans.Shown (Function.update P g (env.target g)) := by
  have C := Fans.shown_closed env (Function.update P g (env.target g))
  unfold FanRun.presentOne
  dsimp only
  refine C.enforceCap C.examine trivial ?_
  split
  next hsame =>
    intro k
    by_cases hk : k = g
    · subst hk
      rw [Function.update_self]
      exact hsame
    · rw [Function.update_of_ne hk]
      exact h k
  next => exact C.act C.examine trivial _ _ (h.present g _)

theorem releaseOne_shown {P : Fin 4 → Target} (h : r.fans.Shown P) :
    (r.releaseOne env g).fans.Shown (Function.update P g (env.target g)) := by
  have C := Fans.shown_closed env (Function.update P g (env.target g))
  have hpresented : Fans.Shown (Function.update P g (env.target g))
      (r.fans.modGroup g fun f => { f with presented := env.target g, pending := none }) := by
    intro k
    by_cases hk : g = k
    · subst hk
      rw [Fans.modGroup_self, Function.update_self]
    · rw [Fans.modGroup_ne _ _ hk, Function.update_of_ne (Ne.symm hk)]
      exact h k
  unfold FanRun.releaseOne
  dsimp only
  refine C.enforceCap (fun _ h => h) trivial ?_
  split
  · exact C.releaseWaiting trivial _ hpresented
  · exact C.act (fun _ h => h) trivial _ _ hpresented

/-- A walk over the groups that presents each of them presents all. -/
theorem foldl_shown {f : FanRun → Fin 4 → FanRun} {T : Fin 4 → Target}
    (hf : ∀ (r : FanRun) (g : Fin 4) (P : Fin 4 → Target), r.fans.Shown P →
      (f r g).fans.Shown (Function.update P g (T g))) (r : FanRun) :
    (groupIndices.foldl f r).fans.Shown T := by
  have h := hf _ 3 _ (hf _ 2 _ (hf _ 1 _ (hf r 0 (fun k => r.fans.groups[k].presented) fun _ => rfl)))
  intro k
  refine (h k).trans ?_
  obtain rfl | rfl | rfl | rfl : k = 0 ∨ k = 1 ∨ k = 2 ∨ k = 3 := by omega
  all_goals rfl

theorem present_shown (hheld : env.held = false) : (r.present env).fans.Shown env.target := by
  unfold FanRun.present
  rw [hheld]
  exact foldl_shown (fun _ _ _ h => presentOne_shown h) r

theorem release_shown : (r.release env).fans.Shown env.target :=
  (Fans.shown_closed env _).examine _ (foldl_shown (fun _ _ _ h => releaseOne_shown h) r)

/-- A group is released: it clears its pending target and is presented with its effective target. -/
theorem release_acting {F : Fans} (h : F.Inv env.config strict free) (hlow : (env.target g).stage ≤ 2) :
    Acting env.config strict (fun k => free k ∧ k ≠ g) F.groups[g].presented (env.target g) g
      (F.modGroup g fun f => { f with presented := env.target g, pending := none }) := by
  have hself := F.modGroup_self g fun f => { f with presented := env.target g, pending := none }
  have hfit := h.fit g
  refine ⟨⟨fun k hk => ?_, h.fires, fun hs => Fans.Balanced.group (h.balanced hs) fun _ => rfl⟩, ?_, hlow,
    ?_, ?_⟩
  · rw [Fans.modGroup_ne _ _ hk, Fans.entriesOf_modGroup, Fans.holds_modGroup]
    exact (h.fit k).mono fun hnot hf => hnot ⟨hf, Ne.symm hk⟩
  · rw [hself, Fans.entriesOf_modGroup, Fans.holds_modGroup]
    exact ⟨hfit.sound, hfit.single, hfit.admits, hfit.slot, hfit.starting, hfit.presented, by simp,
      fun hs => { hfit.account hs with mayPend := by simp, pending := by simp }⟩
  · rw [hself]
    exact hlow
  · rw [hself]
    exact fun _ => rfl

theorem releaseWaiting_inv {old : Target} (h : Acting env.config strict free old t g r.fans)
    (hstate : r.fans.groups[g].state = .windmillWait) (hpending : r.fans.groups[g].pending = none) :
    (r.releaseWaiting env g t).fans.Inv env.config strict free := by
  have hqueued : r.fans.groups[g].state ≠ .queued := by rw [hstate]; decide
  have hwaits : Waits strict g r.fans := ⟨.inr (.inl hstate),
    h.entries_nil hqueued fun hs => absurd (hstate.symm.trans hs) (by decide), fun _ => hpending⟩
  unfold FanRun.releaseWaiting
  split
  · exact backToOff_inv h (.inl hstate) none (by simp)
  · split
    · exact backToOff_inv h (.inl hstate) (some t) (by simp)
    · split
      · exact enterQueued_inv examines_id (r := FanRun.raise _ _ _ _ _) h hwaits
      · split
        · exact h.done hqueued fun _ _ => all_of_none hpending
        · exact enterQueued_inv examines_id h hwaits

theorem releaseOne_inv (hlow : (env.target g).stage ≤ 2) (h : r.fans.Inv env.config strict free) :
    (r.releaseOne env g).fans.Inv env.config strict (fun k => free k ∧ k ≠ g) := by
  have hacting := release_acting h hlow
  unfold FanRun.releaseOne
  dsimp only
  refine enforceCap_inv examines_id ?_
  split
  next hwait =>
    exact releaseWaiting_inv (r := r.modFan g _) hacting hwait
      (congrArg Fan.pending (Fans.modGroup_self _ _ _))
  next => exact act_inv examines_id (r := r.modFan g _) hacting

theorem release_inv (hlow : ∀ k, (env.target k).stage ≤ 2) (h : r.fans.Inv env.config strict free)
    {free' : Fin 4 → Prop} : (r.release env).fans.Inv env.config strict free' := by
  have hall := releaseOne_inv (hlow 3) (releaseOne_inv (hlow 2) (releaseOne_inv (hlow 1)
    (releaseOne_inv (hlow 0) h)))
  have hnone : (groupIndices.foldl (fun r g => r.releaseOne env g) r).fans.Inv env.config strict
      fun _ => False := by
    refine ⟨fun k => (hall.fit k).mono fun _ hf => ?_, hall.fires, hall.balanced⟩
    obtain ⟨⟨⟨⟨-, h0⟩, h1⟩, h2⟩, h3⟩ := hf
    omega
  have hexamined := (examine_examines (strict := strict) (free := fun _ => False)
    fun _ => False.elim).inv hnone
  exact ⟨fun k => (hexamined.fit k).mono fun _ => id, hexamined.fires, hexamined.balanced⟩

end

end Sys2Proof.Machine
end

section
/-!
Settles O6 and O7. What a step keeps is one predicate of the node with two strengths: the groups, their queue
and the slot with the stages of the targets (O6); and with `strict` the account of the legs too (O7).
-/

namespace Sys2Proof.Machine

/-! ### The groups of the node and their view -/

theorem Fans.entriesOf_length (F : Fans) :
    (F.queue.map (·.group)).Nodup ↔ ∀ g, (F.entriesOf g).length ≤ 1 := by
  rw [List.nodup_iff_count_le_one]
  refine forall_congr' fun g => ?_
  rw [List.count, List.countP_map, List.countP_eq_length_filter]
  rfl

theorem Fans.entryFits_iff (F : Fans) (e : StartEntry) :
    F.entryFits e = true ↔ F.groups[e.group].admits e := by
  cases h : e.purpose <;> simp [Fans.entryFits, Fan.admits, h]

theorem Fans.slotFits_iff (F : Fans) (g : Fin 4) (p : Purpose) :
    F.slotFits (g, p) = true ↔ F.groups[g].slotFor p := by
  cases p <;> simp [Fans.slotFits, Fan.slotFor]

/-- Sound groups whose targets lie in their range and, where `strict` stands, whose account is sound. -/
theorem Fans.Sound.inv {cfg : Fin 4 → GroupConfig} {strict : Prop} {free : Fin 4 → Prop} {F : Fans}
    (h : F.Sound) (hstages : ∀ g : Fin 4, F.groups[g].presented.stage ≤ 2 ∧
      ∀ t ∈ F.groups[g].pending, t.stage ≤ 2)
    (hbalanced : strict → ∀ l, F.Balanced l)
    (haccount : strict → ∀ g : Fin 4, F.groups[g].Account (cfg g) (free g) (F.entriesOf g)) :
    F.Inv cfg strict free := by
  obtain ⟨hgroups, hnodup, hentries, hfires, hslot, hstarting⟩ := h
  refine ⟨fun g => ⟨hgroups g, F.entriesOf_length.1 hnodup g, fun e he => ?_, fun p hp => ?_, fun hs => ?_,
    (hstages g).1, (hstages g).2, fun hs => haccount hs g⟩, of_decide_eq_true hfires, hbalanced⟩
  · obtain ⟨hmem, rfl⟩ := Fans.mem_entriesOf.1 he
    exact (F.entryFits_iff e).1 (hentries e hmem)
  · refine (F.slotFits_iff g p).1 (hslot (g, p) ?_)
    simp [Fans.holds_some.1 hp]
  · exact Fans.holds_some.2 (hstarting g hs)

theorem Fans.Inv.sound {cfg : Fin 4 → GroupConfig} {strict : Prop} {free : Fin 4 → Prop} {F : Fans}
    (h : F.Inv cfg strict free) : F.Sound := by
  refine ⟨fun g => (h.fit g).sound, F.entriesOf_length.2 fun g => (h.fit g).single, fun e he => ?_,
    decide_eq_true h.fires, fun x hx => ?_, fun g hs => Fans.holds_some.1 ((h.fit g).starting hs)⟩
  · exact (F.entryFits_iff e).2 ((h.fit e.group).admits e (Fans.mem_entriesOf.2 ⟨he, rfl⟩))
  · obtain ⟨g, p⟩ := x
    refine (F.slotFits_iff g p).2 ((h.fit g).slot p (Fans.holds_some.2 ?_))
    simpa using hx

/-! ### Reserves -/

/-- No reserve is above its original value (R85). -/
abbrev Fans.ReservesLow (F : Fans) : Prop := ∀ z : Fin 32, F.reserves[z].remaining ≤ F.reserves[z].original

theorem Fans.ReservesLow.modReserve {F : Fans} (h : F.ReservesLow) {z : Fin 32} {f : Reserve → Reserve}
    (hf : (f F.reserves[z]).remaining ≤ (f F.reserves[z]).original) : (F.modReserve z f).ReservesLow := by
  intro y
  by_cases hy : z = y
  · subst hy
    rw [Fans.modReserve_self]
    exact hf
  · rw [Fans.modReserve_ne _ _ hy]
    exact h y

theorem Fans.ReservesLow.of_eq {F G : Fans} (h : F.ReservesLow) (heq : G.reserves = F.reserves) :
    G.ReservesLow := by
  intro z
  simp only [heq]
  exact h z

theorem Fans.ReservesLow.refill {F : Fans} (h : F.ReservesLow) (env : FanEnv) (z : Option (Fin 32)) (l : Leg)
    (a : Nat) : (F.refill env z l a).ReservesLow := by
  unfold Fans.refill
  split
  · exact h
  next z =>
    dsimp only
    split
    · refine (h.modReserve (z := z) (f := fun r => { r with
        remaining := r.remaining + min a (F.reserves[z].original - F.reserves[z].remaining) }) ?_).of_eq
        (Fans.modLeg_reserves _ _ _)
      have := h z
      dsimp only
      omega
    · exact h

theorem Fans.reservesLow_closed (env : FanEnv) : FanClosed env (fun _ => True) Fans.ReservesLow where
  group _ _ h := h
  remove _ h := h
  join _ h := h
  change _ _ h := h
  slot h := h
  choices h := h
  charge {F e l} _ h := by
    rw [Fans.charge_eq]
    refine Fans.ReservesLow.of_eq (F := F.converted env e l) ?_ (Fans.modLeg_reserves _ _ _)
    unfold Fans.converted
    split
    next z _ =>
      exact (h.modReserve (z := z) (f := fun r => { r with remaining := r.remaining - _ })
        ((Nat.sub_le _ _).trans (h z))).of_eq (Fans.modLeg_reserves _ _ _)
    next => exact h
  returnDraw {F g} _ h := by
    unfold Fans.returnDraw
    dsimp only
    split
    · exact h
    · exact (h.of_eq (Fans.modLeg_reserves _ _ _)).refill _ _ _ _
  returnStage {F g} _ h := by
    unfold Fans.returnStage
    dsimp only
    split
    · exact h
    · exact (h.of_eq (Fans.modLeg_reserves _ _ _)).refill _ _ _ _
  queued _ _ _ := trivial

/-! ### The node -/

/-- The groups of the node, with their targets' stages and, where `strict` stands, the account of the legs;
the targets need not be presented. -/
structure Node.Grouped (strict : Prop) (n : Node) : Prop where
  fans : n.fans.Inv (fun g => n.setups[g].config) strict (fun _ => n.held = true)
  setups : ∀ g : Fin 4, n.setups[g].demandStage ≤ 2 ∧ ∀ t ∈ n.setups[g].orderTarget, t.1 ≤ 2
  zones : ∀ z : Fin 32, n.zones[z].modeStage ≤ 2
  reserves : strict → n.ZonesSound ∧ n.fans.ReservesLow

/-- The same with every group presented with its effective target unless it is held (R98, R99). -/
structure Node.Supplied (strict : Prop) (n : Node) : Prop where
  grouped : n.Grouped strict
  shown : strict → n.held = false → n.fans.Shown n.effectiveTarget

theorem Node.Grouped.stagesSound {strict : Prop} {n : Node} (h : n.Grouped strict) : n.StagesSound :=
  ⟨fun g => ⟨(h.fans.fit g).presented, by simpa using (h.fans.fit g).pending, (h.setups g).1,
    by simpa using (h.setups g).2⟩, h.zones⟩

theorem Node.supplied_of_sound {n : Node} (h : n.fans.Sound) (hstages : n.StagesSound) :
    n.Supplied False := by
  obtain ⟨hgroups, hzones⟩ := hstages
  refine ⟨⟨h.inv (fun g => ?_) False.elim False.elim, fun g => ?_, hzones, False.elim⟩, False.elim⟩ <;>
    obtain ⟨hpresented, hpending, hdemand, horder⟩ := hgroups g
  · exact ⟨hpresented, by simpa using hpending⟩
  · exact ⟨hdemand, by simpa using horder⟩

theorem Node.drawFits_iff (n : Node) (g : Fin 4) :
    n.drawFits g = true ↔ n.setups[g].config.i1 ≤ n.setups[g].config.i2 ∧
      n.fans.groups[g].reserveTaken ≤ n.fans.groups[g].draw ∧
      (n.fans.groups[g].driven = true →
        n.fans.groups[g].draw = n.setups[g].config.current n.fans.groups[g].stage ∧
          (n.fans.groups[g].stage = 2 → n.setups[g].config.highPresent = true)) := by
  unfold Node.drawFits
  generalize n.fans.groups[g] = f
  generalize n.setups[g].config = c
  dsimp only
  by_cases hd : f.driven = true <;> by_cases h2 : f.stage = 2 <;> simp [and_assoc, hd, h2]

theorem Node.targetsFit_iff (n : Node) (g : Fin 4) :
    n.targetsFit g = true ↔
      (n.fans.groups[g].pending.isSome = true → n.fans.groups[g].state.mayPend = true) ∧
      (n.held = false → n.fans.groups[g].presented = n.effectiveTarget g ∧
        ∀ t ∈ n.fans.groups[g].pending, t = n.fans.groups[g].presented) := by
  unfold Node.targetsFit
  generalize n.fans.groups[g] = f
  have hmay : (f.pending.isNone || f.state == .off || f.state == .starting || f.state == .running ||
      f.state == .stopping) = true ↔ (f.pending.isSome = true → f.state.mayPend = true) := by
    cases f.pending <;> cases f.state <;> simp [GroupState.mayPend]
  rw [Bool.and_eq_true, hmay]
  cases n.held <;> simp [Option.all_eq_true]

theorem Node.entryCurrent_iff (n : Node) (e : StartEntry) :
    n.entryCurrent e = true ↔ n.fans.groups[e.group].asks n.setups[e.group].config e := by
  cases h : e.purpose <;> simp [Node.entryCurrent, Fan.asks, h]

/-- The supply account of the node is sound exactly as its groups are with `strict`. -/
theorem Node.supplied_iff (n : Node) : n.Supplied True ↔ n.ZonesSound ∧ n.SupplySound := by
  constructor
  · intro h
    obtain ⟨hzones, hreserves⟩ := h.grouped.reserves trivial
    refine ⟨hzones, h.grouped.fans.sound, h.grouped.stagesSound, h.grouped.fans.balanced trivial, fun g => ?_,
      fun e he => ?_, fun z => ⟨hreserves z, fun hfree => ?_⟩⟩
    · have haccount := (h.grouped.fans.fit g).account trivial
      refine ⟨(n.drawFits_iff g).2 ⟨haccount.config, haccount.taken, haccount.draw⟩,
        (n.targetsFit_iff g).2 ⟨haccount.mayPend, fun hheld => ⟨h.shown trivial hheld g,
          haccount.pending (by simp [hheld])⟩⟩⟩
    · exact (n.entryCurrent_iff e).2 (((h.grouped.fans.fit e.group).account trivial).asks e
        (Fans.mem_entriesOf.2 ⟨he, rfl⟩))
    · obtain ⟨hz, -⟩ := hzones z
      exact (hz hfree).2
  · rintro ⟨hzones, hsound, hstages, hbalanced, hfits, hentries, hreserves⟩
    have hloose := Node.supplied_of_sound hsound hstages
    refine ⟨⟨hsound.inv (fun g => ⟨(hloose.grouped.fans.fit g).presented, (hloose.grouped.fans.fit g).pending⟩)
      (fun _ => hbalanced) fun _ g => ?_, hloose.grouped.setups, hloose.grouped.zones,
      fun _ => ⟨hzones, fun z => (hreserves z).1⟩⟩, fun _ hheld g => ?_⟩
    · obtain ⟨hi, htaken, hdraw⟩ := (n.drawFits_iff g).1 (hfits g).1
      obtain ⟨hmay, hpending⟩ := (n.targetsFit_iff g).1 (hfits g).2
      refine ⟨hi, htaken, hdraw, hmay, fun hfree => (hpending (by simpa using hfree)).2, fun e he => ?_⟩
      obtain ⟨hmem, rfl⟩ := Fans.mem_entriesOf.1 he
      exact (n.entryCurrent_iff e).1 (hentries e hmem)
    · exact (((n.targetsFit_iff g).1 (hfits g).2).2 hheld).1

/-! ### Effective targets -/

/-- Two zone entries that give groups and doors the same to read (section 8.2). -/
def Zone.Alike (a b : Zone) : Prop :=
  a.active = b.active ∧ a.mode = b.mode ∧ a.modeStage = b.modeStage ∧ a.modeDirection = b.modeDirection ∧
    a.normalDirection = b.normalDirection

theorem Node.activeZone_alike {n m : Node} (h : ∀ z : Fin 32, (m.zones[z]).Alike n.zones[z])
    (z : Option (Fin 32)) : (m.activeZone z = none ∧ n.activeZone z = none) ∨
      ∃ a b, m.activeZone z = some a ∧ n.activeZone z = some b ∧ a.Alike b := by
  cases z with
  | none => exact .inl ⟨rfl, rfl⟩
  | some z =>
    obtain ⟨hactive, -⟩ := id (h z)
    unfold Node.activeZone
    dsimp only
    rw [hactive]
    split
    · exact .inr ⟨_, _, rfl, rfl, h z⟩
    · exact .inl ⟨rfl, rfl⟩

/-- The effective target reads the set-ups, the doors and what is read of the zone entries (R76, R96 to
R98). -/
theorem Node.effectiveTarget_congr {n m : Node} (hsetups : m.setups = n.setups)
    (hzones : ∀ z : Fin 32, (m.zones[z]).Alike n.zones[z])
    (hdoors : ∀ d : Fin 2, m.doors[d].state = n.doors[d].state ∧
      m.doors[d].config.zone = n.doors[d].config.zone) : m.effectiveTarget = n.effectiveTarget := by
  have hfire : ∀ z, m.zoneInFire z = n.zoneInFire z := by
    intro z
    unfold Node.zoneInFire
    obtain ⟨hm, hn⟩ | ⟨a, b, hm, hn, -, hmode, -⟩ := Node.activeZone_alike hzones z
    · rw [hm, hn]
    · rw [hm, hn]
      dsimp only
      rw [hmode]
  have hdoor : ∀ d, m.doorCaps d = n.doorCaps d := by
    intro d
    obtain ⟨hstate, hzone⟩ := hdoors d
    rw [Node.doorCaps, hstate, hzone, hfire, Node.doorCaps]
  have hzone : ∀ g, m.zoneTarget g = n.zoneTarget g := by
    intro g
    unfold Node.zoneTarget
    rw [hsetups]
    dsimp only
    obtain ⟨hm, hn⟩ | ⟨a, b, hm, hn, -, hmode, hstage, hdirection, -⟩ :=
      Node.activeZone_alike hzones n.setups[g].config.zone
    · rw [hm, hn]
    · rw [hm, hn]
      dsimp only
      rw [hmode, hstage, hdirection]
  have hdemand : ∀ g, m.demandTarget g = n.demandTarget g := by
    intro g
    unfold Node.demandTarget
    rw [hsetups]
    dsimp only
    obtain ⟨hm, hn⟩ | ⟨a, b, hm, hn, -, -, -, -, hnormal⟩ :=
      Node.activeZone_alike hzones n.setups[g].config.zone
    · rw [hm, hn]
    · rw [hm, hn]
      dsimp only
      rw [hnormal]
  funext g
  have hraw : m.rawTarget g = n.rawTarget g := by
    unfold Node.rawTarget
    rw [hzone, hsetups, hdemand]
  have hcapped : m.capped g = n.capped g := by
    unfold Node.capped
    rw [hsetups, hdoor, hdoor]
  unfold Node.effectiveTarget
  rw [hraw, hcapped]

/-- Every effective target has a stage from 0 to 2 when its sources have (R98). -/
theorem Node.Grouped.target_low {strict : Prop} {n : Node} (h : n.Grouped strict) (g : Fin 4) :
    (n.effectiveTarget g).stage ≤ 2 := by
  have hzone : ∀ t ∈ n.zoneTarget g, t.stage ≤ 2 := by
    intro t ht
    unfold Node.zoneTarget at ht
    dsimp only at ht
    split at ht
    · cases ht
    next e he =>
      have hstage : e.modeStage ≤ 2 := by
        unfold Node.activeZone at he
        split at he
        · cases he
        next z _ =>
          split at he
          · cases he
            exact h.zones z
          · cases he
      split at ht
      · split at ht
        · cases ht
        · cases ht
          exact hstage
      · cases ht
        exact Nat.zero_le _
      · cases ht
      · cases ht
  have hraw : (n.rawTarget g).stage ≤ 2 := by
    unfold Node.rawTarget
    split
    next t ht => exact hzone t ht
    next =>
      split
      next st d ht => exact (h.setups g).2 (st, d) ht
      next => exact (h.setups g).1
  unfold Node.effectiveTarget
  dsimp only
  split
  · exact Nat.one_le_ofNat
  · exact hraw

/-! ### The elementary changes -/

/-- What holds of every element of a bank and of the one that changes. -/
theorem upd_all {α : Type} {k : Nat} {P : α → Prop} {v : Vector α k} (h : ∀ i : Fin k, P v[i]) {i : Fin k}
    {f : α → α} (hf : P (f v[i])) (j : Fin k) : P (upd v i f)[j] := by
  by_cases hj : i = j
  · subst hj
    rw [show (upd v i f)[i] = f v[i] from upd_self _ _ _]
    exact hf
  · rw [show (upd v i f)[j] = v[j] from upd_ne _ _ _ _ hj]
    exact h j

section
variable {strict : Prop} {n m : Node}

/-- A change of what neither the groups nor their targets read. -/
theorem Node.Grouped.congr (h : n.Grouped strict) (hfans : m.fans = n.fans) (hsetups : m.setups = n.setups)
    (hheld : m.held = n.held) (hstages : ∀ z : Fin 32, m.zones[z].modeStage ≤ 2)
    (hzones : strict → m.ZonesSound) : m.Grouped strict := by
  refine ⟨?_, fun g => ?_, hstages, fun hs => ⟨hzones hs, ?_⟩⟩
  · rw [hfans, hsetups, hheld]
    exact h.fans
  · simp only [hsetups]
    exact h.setups g
  · rw [hfans]
    exact (h.reserves hs).2

theorem Node.Supplied.congr (h : n.Supplied strict) (hfans : m.fans = n.fans) (hsetups : m.setups = n.setups)
    (hheld : m.held = n.held) (hstages : ∀ z : Fin 32, m.zones[z].modeStage ≤ 2)
    (hzones : strict → m.ZonesSound) (halike : ∀ z : Fin 32, (m.zones[z]).Alike n.zones[z])
    (hdoors : ∀ d : Fin 2, m.doors[d].state = n.doors[d].state ∧
      m.doors[d].config.zone = n.doors[d].config.zone) : m.Supplied strict := by
  refine ⟨h.grouped.congr hfans hsetups hheld hstages hzones, fun hs hnot => ?_⟩
  rw [hfans, Node.effectiveTarget_congr hsetups halike hdoors]
  exact h.shown hs (hheld ▸ hnot)

theorem Zone.Alike.refl (z : Zone) : z.Alike z := ⟨rfl, rfl, rfl, rfl, rfl⟩

theorem Node.Grouped.modZone (h : n.Grouped strict) {z : Fin 32} {f : Zone → Zone}
    (hstage : (f n.zones[z]).modeStage ≤ 2) (hzones : strict → (n.modZone z f).ZonesSound) :
    (n.modZone z f).Grouped strict :=
  h.congr rfl rfl rfl (upd_all (P := fun e : Zone => e.modeStage ≤ 2) h.zones hstage) hzones

/-- A change of one entry that groups and doors do not see leaves every effective target. -/
theorem Node.effectiveTarget_modZone (n : Node) {z : Fin 32} {f : Zone → Zone}
    (halike : (f n.zones[z]).Alike n.zones[z]) : (n.modZone z f).effectiveTarget = n.effectiveTarget := by
  refine Node.effectiveTarget_congr rfl (fun y => ?_) fun _ => ⟨rfl, rfl⟩
  by_cases hy : z = y
  · subst hy
    rw [Node.modZone_self]
    exact halike
  · rw [Node.modZone_zones, show (upd n.zones z f)[y] = n.zones[y] from upd_ne _ _ _ _ hy]
    exact .refl _

theorem Node.Supplied.modZone (h : n.Supplied strict) {z : Fin 32} {f : Zone → Zone}
    (hstage : (f n.zones[z]).modeStage ≤ 2) (halike : strict → (f n.zones[z]).Alike n.zones[z])
    (hzones : strict → (n.modZone z f).ZonesSound) : (n.modZone z f).Supplied strict := by
  refine ⟨h.grouped.modZone hstage hzones, fun hs hheld => ?_⟩
  rw [Node.effectiveTarget_modZone n (halike hs)]
  exact h.shown hs hheld

end

/-- The supply account does not read the line, the reports or which of the two running states holds. -/
theorem lineKept_grouped (strict : Prop) : LineKept fun n => n.Grouped strict where
  raise r h := h.congr (Node.raise_fans _ _) (Node.raise_setups _ _) (by rw [Node.held, Node.raise_runState]; rfl)
    (by rw [Node.raise_zones]; exact h.zones) fun hs => lineKept_zones.raise r (h.reserves hs).1
  side _ h := h.congr rfl rfl rfl h.zones fun hs => (h.reserves hs).1
  run hbefore hafter h := h.congr rfl rfl (by simp [Node.held, hbefore, hafter]) h.zones
    fun hs => (h.reserves hs).1

theorem lineKept_supplied (strict : Prop) : LineKept fun n => n.Supplied strict where
  raise {n} r h := h.congr (Node.raise_fans _ _) (Node.raise_setups _ _)
    (by rw [Node.held, Node.raise_runState]; rfl) (by rw [Node.raise_zones]; exact h.grouped.zones)
    (fun hs => lineKept_zones.raise r (h.grouped.reserves hs).1)
    (fun z => by rw [Node.raise_zones]; exact .refl _) (fun d => by rw [Node.raise_doors]; exact ⟨rfl, rfl⟩)
  side _ h := h.congr rfl rfl rfl h.grouped.zones (fun hs => (h.grouped.reserves hs).1) (fun _ => .refl _)
    fun _ => ⟨rfl, rfl⟩
  run hbefore hafter h := h.congr rfl rfl (by simp [Node.held, hbefore, hafter]) h.grouped.zones
    (fun hs => (h.grouped.reserves hs).1) (fun _ => .refl _) fun _ => ⟨rfl, rfl⟩

/-! ### Changes of the account and of the configuration -/

section
variable {cfg : Fin 4 → GroupConfig} {strict : Prop} {free : Fin 4 → Prop} {F G : Fans} {n : Node}

/-- A change of the legs and the reserves that keeps the legs balanced. -/
theorem Fans.Inv.account (h : F.Inv cfg strict free)
    (hsame : G.groups = F.groups ∧ G.queue = F.queue ∧ G.slot = F.slot)
    (hbalanced : strict → ∀ l, G.Balanced l) : G.Inv cfg strict free := by
  obtain ⟨hgroups, hqueue, hslot⟩ := hsame
  refine ⟨fun k => ?_, ?_, hbalanced⟩
  · rw [Fans.entriesOf, hqueue, Fans.holds, hslot]
    simp only [hgroups]
    exact h.fit k
  · rw [hqueue]
    exact h.fires

theorem Fans.Inv.release (h : F.Inv cfg strict free) (z : Fin 32) : (F.release z).Inv cfg strict free := by
  obtain ⟨hgroups, hqueue, hslot, -⟩ := F.release_frame z
  exact h.account ⟨hgroups, hqueue, hslot⟩ fun hs => Fans.Balanced.release (h.balanced hs) z

theorem Fans.ReservesLow.release (h : F.ReservesLow) (z : Fin 32) : (F.release z).ReservesLow := by
  intro y
  by_cases hy : z = y
  · subst hy
    simp only [F.release_self z]
    exact Nat.le_refl _
  · simp only [F.release_ne hy]
    exact h y

/-- The account of a bind (R85, R153). -/
theorem Node.BindAccount.inv {z : Fin 32} (hF : n.BindAccount z G) (h : n.Grouped strict) :
    G.Inv (fun g => n.setups[g].config) strict (fun _ => n.held = true) ∧
      (strict → G.ReservesLow) := by
  obtain ⟨hfree, hG⟩ | ⟨-, rfl⟩ := hF
  · obtain ⟨-, rfl⟩ | ⟨l, -, -, rfl⟩ := Fans.reserve_cases hG
    all_goals refine ⟨h.fans.account ⟨by simp, by simp, by simp⟩ fun hs => ?_, fun hs => ?_⟩
    · exact Fans.Balanced.reserve (h.fans.balanced hs) (((h.reserves hs).1 z).1 hfree).2 hG
    · exact (h.reserves hs).2.modReserve (Nat.le_refl _)
    · exact Fans.Balanced.reserve (h.fans.balanced hs) (((h.reserves hs).1 z).1 hfree).2 hG
    · exact ((h.reserves hs).2.modReserve (f := fun _ => { leg := some l, original := _, remaining := _ })
        (Nat.le_refl _)).of_eq (Fans.modLeg_reserves _ _ _)
  · exact ⟨h.fans, fun hs => (h.reserves hs).2⟩

/-- The set-ups may change while every configuration stays and the stages are in their range. -/
theorem Node.Grouped.setups_congr (h : n.Grouped strict) {v : Vector GroupSetup 4}
    (hconfig : ∀ g : Fin 4, v[g].config = n.setups[g].config)
    (hstages : ∀ g : Fin 4, v[g].demandStage ≤ 2 ∧ ∀ t ∈ v[g].orderTarget, t.1 ≤ 2) :
    Node.Grouped strict { n with setups := v } := by
  refine ⟨?_, hstages, h.zones, fun hs => h.reserves hs⟩
  have hcfg : (fun g : Fin 4 => v[g].config) = fun g => n.setups[g].config := funext hconfig
  change n.fans.Inv (fun g : Fin 4 => v[g].config) strict fun _ => n.held = true
  rw [hcfg]
  exact h.fans

theorem GroupConfig.nextStage_le (c : GroupConfig) {s : Nat} (hs : s ≤ 2) (d : Nat) : c.nextStage s d ≤ 2 := by
  unfold GroupConfig.nextStage
  dsimp only
  repeat' split
  all_goals omega

/-- A configuration is written to a group in OFF (R94). -/
theorem Node.Grouped.withConfig (h : n.Grouped strict) {g : Fin 4} {c : GroupConfig} (hc : c.i1 ≤ c.i2)
    (hoff : n.fans.groups[g].state = .off) : (n.withConfig g c).Grouped strict := by
  have hself : (n.withConfig g c).setups[g] = { n.setups[g] with config := c } := upd_self _ _ _
  have hother : ∀ k : Fin 4, g ≠ k → (n.withConfig g c).setups[k] = n.setups[k] :=
    fun k hk => upd_ne _ _ _ _ hk
  refine ⟨⟨fun k => ?_, h.fans.fires, h.fans.balanced⟩, fun k => ?_, h.zones, h.reserves⟩
  · by_cases hk : g = k
    · subst hk
      have hfit := h.fans.fit g
      have hentries := hfit.entries_nil (by rw [hoff]; decide)
        fun hs => absurd (hoff.symm.trans hs) (by decide)
      change GroupFit (n.withConfig g c).setups[g].config strict _ n.fans.groups[g] (n.fans.entriesOf g)
        (n.fans.holds g)
      rw [hself, hentries]
      exact ⟨hfit.sound, by simp, by simp, hfit.slot, hfit.starting, hfit.presented, hfit.pending, fun hs =>
        ⟨hc, (hfit.account hs).taken, fun hd => absurd (hd.symm.trans (by simp only [Fan.driven, hoff]; rfl))
          (by decide), (hfit.account hs).mayPend, (hfit.account hs).pending, by simp⟩⟩
    · change GroupFit (n.withConfig g c).setups[k].config strict _ n.fans.groups[k] (n.fans.entriesOf k)
        (n.fans.holds k)
      rw [hother k hk]
      exact h.fans.fit k
  · by_cases hk : g = k
    · subst hk
      rw [hself]
      exact h.setups g
    · rw [hother k hk]
      exact h.setups k

theorem Fan.Sound.tick {f : Fan} (h : f.Sound) : f.tick.Sound := by
  simpa [Fan.Sound, Fan.tick, Timer.tick, Fan.driven] using h

/-- The timers count on, and the groups fit as before. -/
theorem Fans.Inv.tick (h : F.Inv cfg strict free) :
    Fans.Inv cfg strict free { F with groups := F.groups.map Fan.tick } := by
  have hgroup : ∀ g : Fin 4, (F.groups.map Fan.tick)[g] = F.groups[g].tick := fun g => by simp
  refine ⟨fun g => ?_, h.fires, fun hs l => ?_⟩
  · change GroupFit _ _ _ (F.groups.map Fan.tick)[g] (F.entriesOf g) (F.holds g)
    rw [hgroup]
    exact (h.fit g).resound (h.fit g).sound.tick rfl
  · have hdraws : Fans.drawsOn { F with groups := F.groups.map Fan.tick } l = F.drawsOn l := by
      unfold Fans.drawsOn
      refine congrArg List.sum (List.map_congr_left fun g _ => ?_)
      rw [hgroup]
      rfl
    obtain ⟨hdrawn, hreserved, hcapacity⟩ := h.balanced hs l
    exact ⟨hdrawn.trans hdraws.symm, hreserved, hcapacity⟩

end

theorem Node.ranFans_grouped {strict : Prop} {n : Node} (h : n.Grouped strict) {f : FanEnv → FanRun → FanRun}
    (hfans : (n.fanRun f).fans.Inv n.fanEnv.config strict fun _ => n.held = true)
    (hzones : n.ZonesSound → (n.ranFans f).ZonesSound)
    (hreserves : n.fans.ReservesLow → (n.fanRun f).fans.ReservesLow) : (n.ranFans f).Grouped strict :=
  ⟨hfans, h.setups, h.zones, fun hs => ⟨hzones (h.reserves hs).1, hreserves (h.reserves hs).2⟩⟩

/-- A restored entry is read as it was (R158). -/
theorem Zone.restored_alike {e : Zone} (hstate : e.state = .binding) (hbefore : e.boundBefore = true) :
    e.restored.Alike e := by
  simp [Zone.Alike, Zone.restored, Zone.active, hstate, hbefore]

theorem Zone.confirmed_alike {e : Zone} (hstate : e.state = .binding) (hbefore : e.boundBefore = true) :
    e.confirmed.Alike e := by
  simp [Zone.Alike, Zone.confirmed, Zone.active, hstate, hbefore]

/-- An entry that enters BINDING is read as it was (R155). -/
theorem Zone.enterBinding_alike {e : Zone} (hstate : e.state = .free ∨ e.state = .bound) (s : Side)
    (tag : Byte) (here : Bool) (wait : Nat) : (e.enterBinding s tag here wait).Alike e := by
  obtain hstate | hstate := hstate
  · simp [Zone.Alike, Zone.enterBinding, Zone.active, hstate]
    rfl
  · simp [Zone.Alike, Zone.enterBinding, Zone.active, hstate]

theorem Zone.Sound.bindWait {e : Zone} {r : Reserve} (h : e.Sound r) (hwait : e.bindWait.isSome = true) :
    e.state = .binding := by
  obtain ⟨-, -, -, -, hbinding, -⟩ := h
  exact hbinding hwait

theorem Zone.tick_alike (e : Zone) : e.tick.Alike e := ⟨rfl, rfl, rfl, rfl, rfl⟩

/-- The run of a step of the groups at its beginning. -/
theorem Node.fanRun_reserves {n : Node} {f : FanEnv → FanRun → FanRun}
    (h : ∀ r : FanRun, r.fans.ReservesLow → (f n.fanEnv r).fans.ReservesLow) (hn : n.fans.ReservesLow) :
    (n.fanRun f).fans.ReservesLow := h _ hn

theorem Node.BindAccount.groups {n : Node} {z : Fin 32} {F : Fans} (hF : n.BindAccount z F) :
    F.groups = n.fans.groups := by
  obtain ⟨-, hG⟩ | ⟨-, rfl⟩ := hF
  · obtain ⟨-, rfl⟩ | ⟨l, -, -, rfl⟩ := Fans.reserve_cases hG <;> simp
  · rfl

/-- Every reserve is released (R180). -/
theorem Fans.Inv.releaseAll {cfg : Fin 4 → GroupConfig} {strict : Prop} {free : Fin 4 → Prop} {F : Fans}
    (h : F.Inv cfg strict free) (l : List (Fin 32)) : (l.foldl Fans.release F).Inv cfg strict free := by
  induction l generalizing F with
  | nil => exact h
  | cons z l ih => exact ih (h.release z)

/-- The groups after power-on reset (R93, R115). -/
theorem Fans.reset_inv {cfg : Fin 4 → GroupConfig} {strict : Prop} {free : Fin 4 → Prop}
    (hcfg : ∀ g, (cfg g).i1 ≤ (cfg g).i2) (k : Nat) :
    Fans.Inv cfg strict free { Fans.reset with choices := k } := by
  have hgroup : ∀ g : Fin 4, Fans.reset.groups[g] = Fan.reset := fun g => by simp [Fans.reset]
  refine ⟨fun g => ?_, by simp [Fans.reset], fun _ l => ?_⟩
  · change GroupFit _ _ _ Fans.reset.groups[g] [] none
    rw [hgroup]
    have hidle : Fan.reset.Idle := ⟨rfl, ⟨rfl, rfl, rfl, rfl⟩, ⟨rfl, rfl, rfl, rfl⟩, rfl, rfl, rfl⟩
    exact .idle hidle (hidle.sound (by simp [Fan.reset]) (by simp [Fan.reset]) (by simp [Fan.reset]))
      (by simp) (by simp) (by simp [Fan.reset]) (by simp [Fan.reset])
      fun _ => ⟨hcfg g, by simp [Fan.reset], by simp [Fan.reset], by simp⟩
  · have hreset : Fans.reset.Balanced l := by cases l <;> decide
    exact hreset

theorem supplied_kept (strict : Prop) : Kept (fun n => n.Supplied strict) fun n => n.Grouped strict where
  clean := lineKept_supplied strict
  dirty := lineKept_grouped strict
  weaken h := h.grouped
  quiet h := h.congr rfl rfl rfl h.grouped.zones (fun hs => (h.grouped.reserves hs).1) (fun _ => .refl _)
    fun _ => ⟨rfl, rfl⟩
  drained h := h.congr rfl rfl rfl h.grouped.zones (fun hs => (h.grouped.reserves hs).1) (fun _ => .refl _)
    fun _ => ⟨rfl, rfl⟩
  fans {n f} hf h := by
    have hshown : strict → ∀ k, ¬n.held = true → n.fans.groups[k].presented = n.effectiveTarget k :=
      fun hs k hheld => h.shown hs (by simpa using hheld) k
    refine ⟨Node.ranFans_grouped h.grouped
      (fanOp_inv (env := n.fanEnv) hf rfl (fun _ hheld => hheld) h.grouped.fans h.grouped.target_low hshown)
      (zones_kept.fans hf) (Node.fanRun_reserves fun _ => (Fans.reservesLow_closed n.fanEnv).fanOp hf
        fun h => h.of_eq (Fans.modLeg_reserves _ _ _)), fun hs hheld => ?_⟩
    exact (Fans.shown_closed n.fanEnv n.effectiveTarget).fanOp hf
        (r := { fans := n.fans, raised := [], short := [] })
      (fun h k => by simp only [Fans.modLeg_groups]; exact h k) (h.shown hs hheld)
  examine {n} h := Node.ranFans_grouped h
    ((examine_examines (env := n.fanEnv) fun _ hheld => hheld).inv h.fans) zones_kept.examine
    (Node.fanRun_reserves (Fans.reservesLow_closed n.fanEnv).examine)
  present {n} h := ⟨Node.ranFans_grouped h
    (present_inv (env := n.fanEnv) (fun _ hheld => hheld) h.target_low h.fans) zones_kept.present
    (Node.fanRun_reserves fun _ => (Fans.reservesLow_closed n.fanEnv).present fun h => h),
    fun _ hheld => present_shown (env := n.fanEnv) hheld⟩
  start {n} hrun h := by
    have htarget : Node.effectiveTarget { n with runState := .operational } = n.effectiveTarget :=
      Node.effectiveTarget_congr rfl (fun _ => .refl _) fun _ => ⟨rfl, rfl⟩
    refine ⟨⟨release_inv (env := Node.fanEnv { n with runState := .operational })
      (r := { fans := n.fans, raised := [], short := [] }) (fun k => ?_) h.grouped.fans, h.grouped.setups,
      h.grouped.zones, fun hs =>
      ⟨zones_kept.start hrun (h.grouped.reserves hs).1,
        Node.fanRun_reserves (n := { n with runState := .operational })
          (fun _ => (Fans.reservesLow_closed _).release fun h => h) (h.grouped.reserves hs).2⟩⟩,
      fun _ _ => release_shown (env := Node.fanEnv { n with runState := .operational })⟩
    change (Node.effectiveTarget { n with runState := .operational } k).stage ≤ 2
    rw [htarget]
    exact h.grouped.target_low k
  door _ h := h.congr rfl rfl rfl h.zones fun hs => (h.reserves hs).1
  doorConfig _ _ h := h.grouped.congr rfl rfl rfl h.grouped.zones fun hs => (h.grouped.reserves hs).1
  demand {n} t demand h := by
    have hsetup : ∀ g : Fin 4, (n.withDemand t demand).setups[g] = { n.setups[g] with
        demandStage := n.setups[g].config.nextStage n.setups[g].demandStage demand } := fun g => by
      simp [Node.withDemand]
    refine Node.Grouped.congr (n := { n with setups := (n.withDemand t demand).setups })
      (h.grouped.setups_congr (fun g => by rw [hsetup]) fun g => ?_) rfl rfl rfl h.grouped.zones
      fun hs => (h.grouped.reserves hs).1
    rw [hsetup]
    exact ⟨GroupConfig.nextStage_le _ (h.grouped.setups g).1 _, (h.grouped.setups g).2⟩
  orderTarget {n} g {o} ho h := by
    refine h.grouped.setups_congr (fun k => ?_) (upd_all (P := fun s : GroupSetup =>
      s.demandStage ≤ 2 ∧ ∀ t ∈ s.orderTarget, t.1 ≤ 2) h.grouped.setups ⟨(h.grouped.setups g).1, ho⟩)
    by_cases hk : g = k
    · subst hk
      rw [show (upd n.setups g _)[g] = _ from upd_self _ _ _]
      rfl
    · rw [show (upd n.setups g _)[k] = _ from upd_ne _ _ _ _ hk]
      rfl
  config {n g c} hc huse h := by
    refine h.grouped.withConfig ?_ ?_
    · simp only [GroupConfig.sound, Bool.and_eq_true, decide_eq_true_eq] at hc
      omega
    · simp only [Node.groupInUse, Bool.or_eq_false_iff, bne_eq_false_iff_eq] at huse
      obtain ⟨⟨⟨hoff, -⟩, -⟩, -⟩ := huse
      exact hoff
  capacity {n l c} hc h := by
    refine ⟨⟨h.grouped.fans.account ⟨by simp, by simp, by simp⟩ fun hs =>
        Fans.Balanced.capacity (h.grouped.fans.balanced hs) hc, h.grouped.setups, h.grouped.zones,
      fun hs => ⟨zones_kept.capacity hc (h.grouped.reserves hs).1,
        (h.grouped.reserves hs).2.of_eq (Fans.modLeg_reserves _ _ _)⟩⟩, fun hs hheld k => ?_⟩
    change (Fans.modLeg _ _ _).groups[k].presented = _
    simp only [Fans.modLeg_groups]
    exact h.shown hs hheld k
  applyOrder now hbound hstage h := h.grouped.modZone hstage fun hs =>
    zones_kept.applyOrder now hbound hstage (h.grouped.reserves hs).1
  record hx h := h.modZone (h.grouped.zones _) (fun _ => .refl _) fun hs =>
    zones_kept.record hx (h.grouped.reserves hs).1
  relay hr hack h := h.modZone (h.grouped.zones _) (fun _ => .refl _) fun hs =>
    zones_kept.relay hr hack (h.grouped.reserves hs).1
  free {n} z h := ⟨h.grouped.fans.release z, h.grouped.setups,
    upd_all (P := fun e : Zone => e.modeStage ≤ 2) h.grouped.zones (Nat.zero_le _), fun hs =>
      ⟨zones_kept.free z (h.grouped.reserves hs).1, (h.grouped.reserves hs).2.release z⟩⟩
  bindTarget {n z F} s tag here hF h := by
    obtain ⟨hinv, hlow⟩ := hF.inv h.grouped
    exact ⟨hinv, h.grouped.setups, upd_all (P := fun e : Zone => e.modeStage ≤ 2) h.grouped.zones
      (h.grouped.zones z), fun hs => ⟨zones_kept.bindTarget s tag here hF (h.grouped.reserves hs).1, hlow hs⟩⟩
  bindEnter {n z F} s tag here wait hF h := by
    obtain ⟨hinv, hlow⟩ := hF.inv h.grouped
    refine ⟨⟨hinv, h.grouped.setups, upd_all (P := fun e : Zone => e.modeStage ≤ 2) h.grouped.zones ?_,
      fun hs => ⟨zones_kept.bindEnter s tag here wait hF (h.grouped.reserves hs).1, hlow hs⟩⟩,
      fun hs hheld => ?_⟩
    · obtain ⟨-, -, hstage, -⟩ := Zone.enterBinding_alike hF.state s tag here wait
      rw [hstage]
      exact h.grouped.zones z
    · have htarget := Node.effectiveTarget_modZone { n with fans := F } (z := z)
        (f := fun e => e.enterBinding s tag here wait) (Zone.enterBinding_alike hF.state s tag here wait)
      intro k
      refine Eq.trans ?_ ((h.shown hs hheld k).trans (congrFun htarget k).symm)
      change F.groups[k].presented = n.fans.groups[k].presented
      simp only [hF.groups]
  restored {n z} hbinding hbefore h := h.modZone (h.grouped.zones z)
    (fun hs => Zone.restored_alike (hbinding.elim id ((h.grouped.reserves hs).1 z).bindWait) hbefore) fun hs =>
      zones_kept.restored hbinding hbefore (h.grouped.reserves hs).1
  confirmed {n z} hbinding h := h.grouped.modZone (h.grouped.zones z) fun hs =>
    zones_kept.confirmed hbinding (h.grouped.reserves hs).1
  reconfirmed {n z} hbinding hbefore h := h.modZone (h.grouped.zones z)
    (fun _ => Zone.confirmed_alike hbinding hbefore) fun hs =>
      zones_kept.reconfirmed hbinding hbefore (h.grouped.reserves hs).1
  lapseNote {n} z x h := h.modZone (h.grouped.zones z) (fun _ => .refl _) fun hs =>
    zones_kept.lapseNote z x (h.grouped.reserves hs).1
  noForward {n z} hbound h := h.modZone (h.grouped.zones z) (fun _ => .refl _) fun hs =>
    zones_kept.noForward hbound (h.grouped.reserves hs).1
  count {n} h := by
    have hzone : ∀ z : Fin 32, n.countTick.zones[z] = n.zones[z].tick := fun z => by simp [Node.countTick]
    have hdoor : ∀ d : Fin 2, n.countTick.doors[d] = n.doors[d].tick := fun d => by simp [Node.countTick]
    have hgroup : ∀ g : Fin 4, n.countTick.fans.groups[g] = n.fans.groups[g].tick := fun g => by
      simp [Node.countTick]
    refine ⟨⟨h.grouped.fans.tick, h.grouped.setups, fun z => ?_, fun hs =>
      ⟨zones_kept.count (h.grouped.reserves hs).1, (h.grouped.reserves hs).2⟩⟩, fun hs hheld k => ?_⟩
    · rw [hzone]
      exact h.grouped.zones z
    · rw [hgroup, Node.effectiveTarget_congr (n := n) (m := n.countTick) rfl
        (fun z => by rw [hzone]; exact Zone.tick_alike _) fun d => by rw [hdoor]; exact ⟨rfl, rfl⟩]
      exact h.shown hs hheld k
  restart {n} h := by
    have hsetup : ∀ g : Fin 4, n.cleared.setups[g] = { n.setups[g] with demandStage := 0 } := fun g => by
      simp [Node.cleared]
    have hinv := h.grouped.fans.releaseAll zoneIndices
    refine ⟨?_, fun g => ?_, fun z => by simp [Node.cleared, Node.reset], fun hs =>
      ⟨zones_kept.restart (h.grouped.reserves hs).1, fun z => ?_⟩⟩
    · have hcfg : (fun g : Fin 4 => n.cleared.setups[g].config) = fun g => n.setups[g].config :=
        funext fun g => by rw [hsetup]
      rw [hcfg]
      exact ⟨fun k => (hinv.fit k).mono fun hnot => absurd rfl hnot, hinv.fires, hinv.balanced⟩
    · rw [hsetup]
      exact ⟨Nat.zero_le _, (h.grouped.setups g).2⟩
    · change (zoneIndices.foldl Fans.release n.fans).reserves[z].remaining ≤
        (zoneIndices.foldl Fans.release n.fans).reserves[z].original
      rw [Fans.release_all]
  powerOn n straps := by
    have hsetup : ∀ g : Fin 4, (n.restarted straps).setups[g] = {} := fun g => by
      simp [Node.restarted, Node.reset]
    refine ⟨⟨Fans.reset_inv (fun g => by rw [hsetup]) _, fun g => by simp [hsetup],
      fun z => by simp [Node.restarted, Node.reset], fun _ => ⟨zones_kept.powerOn n straps, fun z => ?_⟩⟩,
      fun _ hheld => ?_⟩
    · simp [Node.restarted, Node.reset, Fans.reset]
    · cases hheld

/-- Settles O6: the looser predicate is kept by a step. -/
theorem groupsSoundKept : Obligations.GroupsSoundKept := by
  unfold Obligations.GroupsSoundKept
  intro s t hsound hstages hstep
  have h := (supplied_kept False).step hstep (Node.supplied_of_sound hsound hstages)
  exact ⟨h.grouped.fans.sound, h.grouped.stagesSound⟩

/-- Settles O7: the stricter predicate is kept by a step. -/
theorem supplySoundKept : Obligations.SupplySoundKept := by
  unfold Obligations.SupplySoundKept
  intro s t hzones hsupply hstep
  obtain ⟨-, h⟩ := (Node.supplied_iff _).1
    ((supplied_kept True).step hstep ((Node.supplied_iff _).2 ⟨hzones, hsupply⟩))
  exact h

end Sys2Proof.Machine
end

section
/-!
Settles O11 and O12: the coders of telegrams and of service objects undo each other (sections 3.8 and 11.3).
-/

namespace Sys2Proof.Machine

/-! ### Fields (section 1.6)

A field is read at the offset it was put at; each reader skips the bytes before it. -/

theorem get8_cons_succ (b : Byte) (d : List Byte) (i : Nat) : get8 (b :: d) (i + 1) = get8 d i := rfl

theorem get16_cons_succ (b : Byte) (d : List Byte) (i : Nat) : get16 (b :: d) (i + 1) = get16 d i := rfl

theorem getS16_cons_succ (b : Byte) (d : List Byte) (i : Nat) : getS16 (b :: d) (i + 1) = getS16 d i := rfl

theorem getFlag_cons_succ (b : Byte) (d : List Byte) (i : Nat) : getFlag (b :: d) (i + 1) = getFlag d i := rfl

theorem getOptionalIndex_cons_succ (n : Nat) (b : Byte) (d : List Byte) (i : Nat) :
    getOptionalIndex n (b :: d) (i + 1) = getOptionalIndex n d i := rfl

theorem b8_toNat {n : Nat} (h : n < 256) : (b8 n).toNat = n := by
  rw [b8, BitVec.toNat_ofNat]
  exact Nat.mod_eq_of_lt h

theorem get8_put {n : Nat} (h : n < 256) (d : List Byte) : get8 (b8 n :: d) 0 = n := b8_toNat h

theorem get16_put {n : Nat} (h : n < 65536) (d : List Byte) : get16 (b8 (n / 256) :: b8 n :: d) 0 = n := by
  change (b8 (n / 256)).toNat * 256 + (b8 n).toNat = n
  simp only [b8, BitVec.toNat_ofNat]
  omega

/-- A signed field holds its value in two's complement. -/
theorem getS16_put {i : Int} (hlo : -32768 ≤ i) (hhi : i ≤ 32767) (d : List Byte) :
    getS16 (b8 ((i % 65536).toNat / 256) :: b8 (i % 65536).toNat :: d) 0 = i := by
  rw [getS16, get16_put (by omega), signed16]
  split <;> omega

theorem getFlag_put (b : Bool) (d : List Byte) : getFlag (b8 (flag b) :: d) 0 = some b := by
  cases b <;> rfl

theorem index_val {n : Nat} (i : Fin n) : index n i.val = some i := by simp [index]

/-- An optional index takes two bytes, whether it is there or not (section 3.8). -/
theorem putIndex_eq {n : Nat} (i : Option (Fin n)) :
    putIndex i = [b8 (flag i.isSome), b8 (i.elim 0 Fin.val)] := by
  cases i <;> rfl

theorem getOptionalIndex_put {n : Nat} (hn : n ≤ 256) (i : Option (Fin n)) (d : List Byte) :
    getOptionalIndex n (b8 (flag i.isSome) :: b8 (i.elim 0 Fin.val) :: d) 0 = some i := by
  unfold getOptionalIndex
  rw [getFlag_put]
  cases i with
  | none => rfl
  | some i =>
    have hi : get8 (b8 (flag true) :: b8 i.val :: d) (0 + 1) = i.val :=
      get8_put (i.isLt.trans_le hn) d
    simp only [Option.isSome_some, Option.elim_some, hi, index_val, Option.map_some]

/-! ### The telegram on the line (R41, R63) -/

theorem kindOf_code (k : Kind) : kindOf (b8 (kindCode k)).toNat = some k := by cases k <;> rfl

theorem classOf_code (c : TelegramClass) : classOf (b8 (classCode c)).toNat = some c := by cases c <;> rfl

theorem routeOf_code (r : Route) : routeOf (b8 (routeCode r)).toNat = some r := by cases r <;> rfl

/-- Settles O11: the length byte cuts the body from its trailer, and each code names its value. -/
theorem wireRoundTrip : Obligations.WireRoundTrip := by
  unfold Obligations.WireRoundTrip
  intro t hgood
  have hbody : t.body.length ≤ 48 := by
    simp only [telegramGood, Bool.and_eq_true, decide_eq_true_eq] at hgood
    exact hgood.2
  have hlength : (b8 t.body.length).toNat = t.body.length := b8_toNat (by omega)
  have htake : (t.body ++ trailer (headerBytes t ++ t.body)).take t.body.length = t.body := by simp
  have hdrop : (t.body ++ trailer (headerBytes t ++ t.body)).drop t.body.length =
      trailer (headerBytes t ++ t.body) := by simp
  have htrailer : (t.body ++ trailer (headerBytes t ++ t.body)).length = t.body.length + 2 := by
    simp [trailer]
  have hwire : wireBytes t = b8 (kindCode t.kind) :: b8 (classCode t.cls) :: b8 (routeCode t.route) ::
      t.hop :: t.target :: t.origin :: t.tag :: b8 t.body.length ::
        (t.body ++ trailer (headerBytes t ++ t.body)) := by
    simp [wireBytes, headerBytes]
  rw [hwire]
  unfold receiveCheck
  dsimp only
  rw [hlength, htake, hdrop, htrailer, kindOf_code, classOf_code, routeOf_code]
  simp only [headerBytes, decide_true, BEq.rfl, Bool.and_self, if_true]
  exact if_pos hgood

/-! ### The configurations (R5, R20, R64, R74, R78, R94, R119, R122, R175) -/

theorem directionOf_put (c : Direction) (d : List Byte) :
    directionOf (get8 (b8 (directionCode c) :: d) 0) = some c := by
  cases c <;> rfl

theorem GroupConfig.parse_bytes {c : GroupConfig} (h : c.sound = true) : GroupConfig.parse c.bytes = some c := by
  have hsound := h
  simp only [GroupConfig.sound, inRange, Bool.and_eq_true, decide_eq_true_eq] at h
  unfold GroupConfig.parse GroupConfig.bytes
  simp (disch := omega) only [putIndex_eq, put16, put8, putFlag, List.cons_append, List.nil_append,
    get8_cons_succ, get16_cons_succ, getFlag_cons_succ, getOptionalIndex_cons_succ, getOptionalIndex_put,
    getFlag_put, get16_put, get8_put, directionOf_put]
  exact if_pos hsound

theorem DoorConfig.parse_bytes {c : DoorConfig} (h : c.sound = true) : DoorConfig.parse c.bytes = some c := by
  have hsound := h
  simp only [DoorConfig.sound, inRange, Bool.and_eq_true, decide_eq_true_eq] at h
  unfold DoorConfig.parse DoorConfig.bytes
  simp (disch := omega) only [putIndex_eq, put16, put8, List.cons_append, List.nil_append,
    get8_cons_succ, get16_cons_succ, getOptionalIndex_cons_succ, getOptionalIndex_put, get16_put, get8_put]
  exact if_pos hsound

theorem channelKindOf_put (k : ChannelKind) (d : List Byte) :
    channelKindOf (get8 (b8 (channelKindCode k) :: d) 0) = some k := by
  cases k <;> rfl

/-- The compensation field takes six bytes, whether it is there or not (R5). -/
theorem putCompensation_eq (c : Option Compensation) :
    putCompensation c = b8 (flag c.isSome) :: b8 (c.elim 0 (·.source.val)) ::
      (put16 (c.elim 0 fun p => (p.coeff % 65536).toNat) ++
        put16 (c.elim 0 fun p => (p.ref % 65536).toNat)) := by
  cases c <;> rfl

/-- A compensation is read back from the bytes from offset 6 on. -/
theorem getCompensation_put {c : Option Compensation}
    (hrange : ∀ p ∈ c, -32768 ≤ p.coeff ∧ p.coeff ≤ 32767 ∧ -32768 ≤ p.ref ∧ p.ref ≤ 32767)
    (b0 b1 b2 b3 b4 b5 : Byte) (d : List Byte) :
    getCompensation (b0 :: b1 :: b2 :: b3 :: b4 :: b5 :: (putCompensation c ++ d)) = some c := by
  unfold getCompensation
  rw [putCompensation_eq]
  cases c with
  | none => rfl
  | some p =>
    obtain ⟨hclo, hchi, hrlo, hrhi⟩ := hrange p rfl
    have hsource : p.source.val < 256 := by omega
    simp (disch := assumption) only [put16, List.cons_append, List.nil_append, get8_cons_succ,
      getS16_cons_succ, getFlag_cons_succ, getFlag_put, get8_put, Option.isSome_some, Option.elim_some,
      getS16_put, index_val, Option.map_some]

theorem ChannelConfig.parse_bytes {c : ChannelConfig} (h : c.sound = true) (hoffset : c.offset < 65536)
    (hgain : c.gain < 65536) (hloop : c.loopHigh < 65536) (hhold : c.loopHold < 256)
    (hrange : ∀ p ∈ c.compensation, -32768 ≤ p.coeff ∧ p.coeff ≤ 32767 ∧ -32768 ≤ p.ref ∧ p.ref ≤ 32767) :
    ChannelConfig.parse c.bytes = some c := by
  have hsound := h
  simp only [ChannelConfig.sound, Bool.and_eq_true, decide_eq_true_eq] at h
  obtain ⟨⟨⟨⟨⟨⟨⟨hlow, -⟩, hk⟩, hm⟩, h12⟩, h23⟩, h3⟩, hhys⟩ := h
  have hcompensation : getCompensation c.bytes = some c.compensation := by
    unfold ChannelConfig.bytes
    simp only [put16, put8, putFlag, List.cons_append, List.nil_append, List.append_assoc]
    exact getCompensation_put hrange _ _ _ _ _ _ _
  unfold ChannelConfig.parse
  rw [hcompensation]
  unfold ChannelConfig.bytes
  simp (disch := omega) only [putCompensation_eq, put16, put8, putFlag, List.cons_append, List.nil_append,
    get8_cons_succ, get16_cons_succ, getFlag_cons_succ, channelKindOf_put, getFlag_put, get16_put, get8_put]
  exact if_pos hsound

/-- The write-permit set is the sum of its sides' codes (R175). -/
theorem permits_code (w e : Bool) (h : w = true ∨ e = true) :
    inRange 1 3 (flag w + 2 * flag e) = true ∧ decide ((flag w + 2 * flag e) % 2 = 1) = w ∧
      decide (2 ≤ flag w + 2 * flag e) = e := by
  revert h
  revert w e
  decide

theorem Params.parse_bytes {p : Params} (hsample : 1 ≤ p.samplePeriod ∧ p.samplePeriod ≤ 255)
    (hpublish : 1 ≤ p.publishInterval ∧ p.publishInterval ≤ 255)
    (hsilence : 10 ≤ p.silenceLimit ∧ p.silenceLimit ≤ 200)
    (hstale : 1 ≤ p.staleAfter ∧ p.staleAfter ≤ p.lapseAfter ∧ p.lapseAfter ≤ 255)
    (hbind : 1 ≤ p.bindWait ∧ p.bindWait ≤ 60) (hpermit : p.permitWest = true ∨ p.permitEast = true) :
    Params.parse p.bytes = some p := by
  obtain ⟨hrange, hwest, heast⟩ := permits_code _ _ hpermit
  have hcode : flag p.permitWest + 2 * flag p.permitEast < 256 := by
    simp only [inRange, Bool.and_eq_true, decide_eq_true_eq] at hrange
    omega
  unfold Params.parse Params.bytes
  simp (disch := omega) only [put8, List.cons_append, List.nil_append, get8_cons_succ, get8_put]
  rw [if_pos, hwest, heast]
  simp only [Bool.and_eq_true, hrange, and_true]
  simp only [inRange, Bool.and_eq_true, decide_eq_true_eq]
  omega

theorem Entry.parse_bytes {e : Entry} (hsource : ∀ id, e.source = .node id → 1 ≤ id ∧ id ≤ 126)
    (hchannel : e.channel ≤ 7) (hweight : e.weight < 256) :
    Entry.parse e.bytes = some { source := e.source, channel := e.channel, weight := e.weight } := by
  have hcode : sourceCode e.source < 256 ∧ sourceOf (sourceCode e.source) = some e.source := by
    cases hs : e.source with
    | here => exact ⟨by decide, rfl⟩
    | none => exact ⟨by decide, rfl⟩
    | node id =>
      obtain ⟨hlo, hhi⟩ := hsource id hs
      refine ⟨show id < 256 by omega, ?_⟩
      rw [sourceCode, sourceOf, if_neg (by omega), if_pos hhi]
  obtain ⟨hlt, hof⟩ := hcode
  unfold Entry.parse Entry.bytes
  simp (disch := omega) only [put8, List.cons_append, List.nil_append, get8_cons_succ, get8_put, hof]
  exact if_pos hchannel

theorem pullOf_put (p : Pull) (d : List Byte) : pullOf (get8 (b8 (pullCode p) :: d) 0) = some p := by
  cases p <;> rfl

theorem edgeOf_put (e : EdgeSelect) (d : List Byte) : edgeOf (get8 (b8 (edgeCode e) :: d) 0) = some e := by
  cases e <;> rfl

theorem actionOf_put (a : InputAction) (d : List Byte) :
    actionOf (get8 (b8 (actionCode a) :: d) 0) = some a := by
  cases a <;> rfl

theorem Input.write_bytes (p r : Input) (h : p.debounce < 256) :
    r.write p.bytes = some { r with pull := p.pull, inverted := p.inverted, debounce := p.debounce,
                                    edge := p.edge, action := p.action } := by
  unfold Input.write Input.bytes
  simp (disch := assumption) only [put8, putFlag, List.cons_append, List.nil_append, get8_cons_succ,
    getFlag_cons_succ, pullOf_put, getFlag_put, edgeOf_put, actionOf_put, get8_put]

/-- Settles O12, object by object. -/
theorem configsRoundTrip : Obligations.ConfigsRoundTrip := by
  unfold Obligations.ConfigsRoundTrip
  refine ⟨fun c => GroupConfig.parse_bytes, fun c => DoorConfig.parse_bytes, fun c =>
    ChannelConfig.parse_bytes, ?_, fun e => Entry.parse_bytes, Input.write_bytes, fun r h => ?_⟩
  · intro p hsample hsample' hpublish hpublish' hsilence hsilence' hstale hstale' hlapse hbind hbind' hpermit
    exact Params.parse_bytes ⟨hsample, hsample'⟩ ⟨hpublish, hpublish'⟩ ⟨hsilence, hsilence'⟩
      ⟨hstale, hstale', hlapse⟩ ⟨hbind, hbind'⟩ hpermit
  · unfold LegRecord.bytes
    simp only [put16, List.cons_append, List.nil_append]
    exact get16_put h _

end Sys2Proof.Machine
end

section
/-!
Settles O13 to O20, the line: what a side hears, how it proves, leaves UP, forwards and sends.
-/

namespace Sys2Proof.Machine

theorem next_congr {n m : Node} (q : List Instr) (h : n = m) :
    (.next ⟨n, q⟩ : Host.Outcome State Fault Refusal) = .next ⟨m, q⟩ := by rw [h]

/-! ### Side units under reports and changes of the other side -/

@[simp] theorem Node.raise_side (r : Report) (n : Node) (s : Side) : (n.raise r).side s = n.side s := by
  rw [Node.side, Node.raise_line, Node.side]

@[simp] theorem Node.raise_isUp (r : Report) (n : Node) (s : Side) : (n.raise r).isUp s = n.isUp s := by
  rw [Node.isUp, Node.raise_side, Node.isUp]

@[simp] theorem Side.other_other (s : Side) : s.other.other = s := by cases s <;> rfl

theorem SideUnit.serve_state (u : SideUnit) : u.serve.state = u.state := by
  unfold SideUnit.serve
  split
  · rfl
  · split
    · rfl
    · exact u.setQueue_state _ _

theorem SideUnit.join_state (u : SideUnit) (e : Queued) : (u.join e).state = u.state := by
  rw [SideUnit.join, SideUnit.serve_state, SideUnit.setQueue_state]

/-- A plain offer changes at most the side that it is made to, whose state it keeps (R50 to R53). -/
theorem Node.offerPlain_side (a : Side) (e : Queued) (n : Node) :
    (n.offerPlain a e).side a.other = n.side a.other ∧
      ((n.offerPlain a e).side a).state = (n.side a).state := by
  unfold Node.offerPlain
  split
  · simp
  · split
    · simp [SideUnit.join_state]
    · split
      · simp [SideUnit.evictAndJoin, SideUnit.join_state]
      · simp

theorem Node.notify_side (a : Side) (c : NoticeCause) (t : Telegram) (n : Node) :
    (n.notify a c t).side a.other = n.side a.other ∧ ((n.notify a c t).side a).state = (n.side a).state := by
  unfold Node.notify
  split
  · exact n.offerPlain_side a _
  · exact ⟨rfl, rfl⟩

/-- The notices of R48 change at most the side that they are offered to, whose state they keep. -/
theorem Node.notifyFlushed_side (a : Side) (es : List Queued) (n : Node) :
    (n.notifyFlushed a es).side a.other = n.side a.other ∧
      ((n.notifyFlushed a es).side a).state = (n.side a).state := by
  induction es generalizing n with
  | nil => exact ⟨rfl, rfl⟩
  | cons e es ih =>
    have hone : (n.notifyOne a e).side a.other = n.side a.other ∧
        ((n.notifyOne a e).side a).state = (n.side a).state := by
      unfold Node.notifyOne
      split
      · split
        · exact n.notify_side a _ _
        · exact ⟨rfl, rfl⟩
      · exact ⟨rfl, rfl⟩
    obtain ⟨hother, hstate⟩ := ih (n.notifyOne a e)
    exact ⟨hother.trans hone.1, hstate.trans hone.2⟩

/-! ### Telegrams that find room -/

theorem Node.offer_of_hasRoom {n : Node} {s : Side} {e : Queued} (hup : n.isUp s = true)
    (hroom : (n.side s).hasRoom e.telegram.cls = true) : n.offer s e = n.modSide s (·.join e) := by
  simp [Node.offer, hup, hroom]

theorem Node.forward_of_hasRoom {n : Node} {s : Side} {t : Telegram} (hup : n.isUp s.other = true)
    (hroom : (n.side s.other).hasRoom t.cls = true) :
    n.forward s t = n.modSide s.other (·.join ⟨t, .forwarded s⟩) :=
  Node.offer_of_hasRoom hup hroom

theorem Node.notify_of_hasRoom {n : Node} {s : Side} {c : NoticeCause} {t : Telegram}
    (hid : n.validId = true) (hup : n.isUp s = true) (hroom : (n.side s).hasRoom .control = true) :
    n.notify s c t = n.modSide s (·.join ⟨pathNotice n c t, .here⟩) := by
  have hcls : (pathNotice n c t).cls = .control := rfl
  simp [Node.notify, hid, Node.offerPlain, hup, hcls, hroom]

@[simp] theorem Node.loadSilence_side_other (n : Node) (s : Side) :
    (n.loadSilence s).side s.other = n.side s.other := n.modSide_other s _

/-! ### Bad telegrams and leaving UP (R42, R44, R48) -/

theorem Node.receiveBytes_of_bad {n : Node} {s : Side} {bytes : List Byte}
    (hbad : receiveCheck bytes = none) : n.receiveBytes s bytes = n.receiveBad s := by
  simp [Node.receiveBytes, hbad]

/-- The side of a node whose score a bad telegram has raised. -/
def SideUnit.scored (u : SideUnit) : SideUnit :=
  { u with
    errorScore := min 8 (u.errorScore + 1),
    provingCount := if u.state = .proving then 0 else u.provingCount }

theorem Node.receiveBad_eq_scored (s : Side) (n : Node) :
    n.receiveBad s =
      if (n.side s).state = .up ∧ 7 ≤ (n.side s).errorScore then
        (n.modSide s SideUnit.scored).leaveUp s .errors
      else n.modSide s SideUnit.scored := by
  have hscore : ((n.modSide s SideUnit.scored).side s).errorScore = 8 ↔ 7 ≤ (n.side s).errorScore := by
    rw [Node.modSide_side, SideUnit.scored]
    dsimp only
    omega
  have hstate : ((n.modSide s SideUnit.scored).side s).state = (n.side s).state := by
    rw [Node.modSide_side, SideUnit.scored]
  simp only [← hscore, ← hstate]
  rfl

/-- Settles O13: a raised score that does not take the side out of UP is all that a bad telegram makes. -/
theorem badTelegramCounted : Obligations.BadTelegramCounted := by
  unfold Obligations.BadTelegramCounted
  intro n q side bytes hbad hstays
  have hkeep : ¬ ((n.side side).state = .up ∧ 7 ≤ (n.side side).errorScore) := by
    rintro ⟨hup, hscore⟩
    exact hstays.elim (absurd hup) fun hlow => by omega
  have hreceive : n.receiveBytes side bytes = n.modSide side SideUnit.scored := by
    rw [Node.receiveBytes_of_bad hbad, Node.receiveBad_eq_scored, if_neg hkeep]
  exact next_congr q hreceive

/-- What is left in the transmitter when a side leaves UP is an IDLE (R48). -/
theorem SideUnit.drop_transmitting (u : SideUnit) :
    u.drop.transmitting = u.transmitting.filter fun e => e.telegram.kind == .idle := by
  cases htx : u.transmitting with
  | none => simp [SideUnit.drop, SideUnit.cutOff, htx]
  | some e =>
    by_cases hk : e.telegram.kind = .idle <;>
      simp [SideUnit.drop, SideUnit.cutOff, Option.filter, htx, hk]

/-- The run state that is left when a node may have no side UP (R177). -/
theorem Node.checkIsolated_runState (n : Node) (s : Side) (hdown : n.isUp s = false) :
    n.checkIsolated.runState =
      if n.runState = .operational ∧ n.isUp s.other = false then .isolated else n.runState := by
  have hsides : (n.isUp .west = false ∧ n.isUp .east = false) ↔ n.isUp s.other = false := by
    cases s <;> simp_all [Side.other]
  unfold Node.checkIsolated
  simp only [Bool.not_eq_true', hsides, apply_ite Node.runState, Node.raise_runState]

/-- What leaving UP makes of a node: the side dropped, the state of the other side kept, and the node
ISOLATED where no side is left (R48, R177). -/
theorem Node.leaveUp_sides (s : Side) (c : DownCause) (n : Node) :
    (n.leaveUp s c).side s = (n.side s).drop ∧
      ((n.leaveUp s c).side s.other).state = (n.side s.other).state ∧
      (n.leaveUp s c).runState =
        if n.runState = .operational ∧ n.isUp s.other = false then .isolated else n.runState := by
  obtain ⟨hside, hstate⟩ :=
    Node.notifyFlushed_side s.other (n.side s).flushed (n.modSide s SideUnit.drop)
  rw [Side.other_other, Node.modSide_side] at hside
  rw [Node.modSide_other] at hstate
  obtain ⟨line, reports, hnotified⟩ :=
    Node.notifyFlushed_eq s.other (n.side s).flushed (n.modSide s SideUnit.drop)
  unfold Node.leaveUp
  dsimp only
  rw [hnotified] at hside hstate ⊢
  have hline (m : Node) (t : Side) : m.checkIsolated.side t = m.side t := by
    obtain ⟨r, q, h⟩ := m.checkIsolated_eq
    rw [h]
    rfl
  refine ⟨?_, ?_, ?_⟩
  · rw [hline, Node.raise_side, hside]
  · rw [hline, Node.raise_side, hstate]
  · rw [Node.checkIsolated_runState _ s, Node.raise_isUp, Node.raise_runState]
    · rw [Node.isUp, hstate]
      rfl
    · rw [Node.raise_isUp, Node.isUp, hside]
      rfl

/-- The node `m` is `n` with a side that has left UP. -/
def Node.LeftUp (n m : Node) (side : Side) : Prop :=
  (m.side side).state = .down ∧ (m.side side).provingCount = 0 ∧
    (m.side side).silence = none ∧ (m.side side).alarm = [] ∧ (m.side side).control = [] ∧
    (m.side side).sample = [] ∧ (m.side side).service = [] ∧
    (m.side side).transmitting =
      (n.side side).transmitting.filter (fun e => e.telegram.kind == .idle) ∧
    (m.side side).neighbourId = (n.side side).neighbourId ∧
    (m.side side).neighbourRunState = (n.side side).neighbourRunState ∧
    (m.side side.other).state = (n.side side.other).state ∧
    m.runState =
      (if n.runState = .operational ∧ n.isUp side.other = false then .isolated else n.runState) ∧
    m = { n with line := m.line, runState := m.runState, reports := m.reports }

theorem Node.leaveUp_leftUp (n : Node) (side : Side) (c : DownCause) : n.LeftUp (n.leaveUp side c) side := by
  obtain ⟨hside, hstate, hrun⟩ := n.leaveUp_sides side c
  rw [Node.LeftUp, hside]
  refine ⟨rfl, rfl, rfl, rfl, rfl, rfl, rfl, SideUnit.drop_transmitting _, rfl, rfl, hstate, hrun, ?_⟩
  obtain ⟨l, r, q, h⟩ := n.leaveUp_eq side c
  rw [h]

/-- The score is the one part of a side that what is left of it does not show. -/
theorem Node.LeftUp.of_scored {n m : Node} {side : Side}
    (h : (n.modSide side SideUnit.scored).LeftUp m side) : n.LeftUp m side := by
  unfold Node.LeftUp at h ⊢
  simp only [Node.modSide_side, Node.modSide_other, Node.isUp] at h ⊢
  exact h

/-- Settles O14: silence and a full error score both end in `leaveUp`. -/
theorem sideLeavesUp : Obligations.SideLeavesUp := by
  unfold Obligations.SideLeavesUp
  intro n q side c hup hcause
  obtain ⟨rfl, hruns⟩ | ⟨bytes, rfl, hbad, hscore⟩ := hcause
  · refine ⟨_, ?_, n.leaveUp_leftUp side .silence⟩
    have hexpire : n.expireSilence side = n.leaveUp side .silence := by
      rw [Node.expireSilence, if_pos hruns, Node.silenceExpired, hup]
    exact next_congr q hexpire
  · refine ⟨_, ?_, ((n.modSide side SideUnit.scored).leaveUp_leftUp side .errors).of_scored⟩
    have hreceive : n.receiveBytes side bytes = (n.modSide side SideUnit.scored).leaveUp side .errors := by
      rw [Node.receiveBytes_of_bad hbad, Node.receiveBad_eq_scored, if_pos ⟨hup, hscore⟩]
    exact next_congr q hreceive

end Sys2Proof.Machine
end

section
/-!
Settles O15 to O20, the line: proving, the neighbour record, the switch's forwarding, a passing SAMPLE, the
side timers and the transmitter.
-/

namespace Sys2Proof.Machine

/-! ### Good telegrams on a side that is not UP (R42, R47) -/

theorem Node.receive_of_not_up {n : Node} {s : Side} {t : Telegram} (hgood : telegramGood t = true)
    (hdown : n.isUp s = false) : n.receive s t = n.prove s := by
  simp [Node.receive, hgood, Node.receiveGood, hdown]

/-- The third good telegram takes the side UP and an ISOLATED node back to OPERATIONAL (R47, R177). -/
theorem Node.enterUp_sides (s : Side) (n : Node) :
    (n.enterUp s).line = n.line.modSide s (fun u =>
        { u with state := .up, provingCount := 0, silence := some n.params.silenceLimit }) ∧
      (n.enterUp s).runState = (if n.runState = .isolated then .operational else n.runState) := by
  unfold Node.enterUp
  dsimp only
  rw [Node.raise_runState, Node.modSide_runState]
  split <;> simp [Node.modSide_line]

theorem Node.prove_of_down {n : Node} {s : Side} (h : (n.side s).state = .down) :
    n.prove s = n.modSide s fun u =>
      { u with state := .proving, provingCount := 0, silence := some n.params.silenceLimit } := by
  simp [Node.prove, h]

/-- A PROVING side whose count rises. -/
def SideUnit.proved (ticks : Nat) (u : SideUnit) : SideUnit :=
  { u with provingCount := u.provingCount + 1, silence := some ticks }

theorem Node.prove_of_proving {n : Node} {s : Side} (h : (n.side s).state = .proving) :
    n.prove s =
      if 2 ≤ (n.side s).provingCount then
        (n.modSide s (SideUnit.proved n.params.silenceLimit)).enterUp s
      else n.modSide s (SideUnit.proved n.params.silenceLimit) := by
  have hcount : 3 ≤ ((n.modSide s (SideUnit.proved n.params.silenceLimit)).side s).provingCount ↔
      2 ≤ (n.side s).provingCount := by
    rw [Node.modSide_side, SideUnit.proved]
    dsimp only
    omega
  simp only [← hcount]
  unfold Node.prove
  rw [h]
  rfl

/-- Settles O15, by the state of the side. -/
theorem goodTelegramProves : Obligations.GoodTelegramProves := by
  unfold Obligations.GoodTelegramProves
  intro n q side t hgood
  have hreceive (h : (n.side side).state ≠ .up) : n.receive side t = n.prove side :=
    Node.receive_of_not_up hgood (by simpa [Node.isUp] using h)
  refine ⟨fun hdown => ?_, fun hproving hcount => ?_, fun hproving hcount => ?_⟩
  · exact next_congr q ((hreceive (by simp [hdown])).trans (Node.prove_of_down hdown))
  · have hprove := Node.prove_of_proving hproving
    rw [if_neg (by omega)] at hprove
    exact next_congr q ((hreceive (by simp [hproving])).trans hprove)
  · have hprove := Node.prove_of_proving hproving
    rw [if_pos hcount] at hprove
    refine ⟨_, next_congr q ((hreceive (by simp [hproving])).trans hprove), ?_⟩
    obtain ⟨hline, hrun⟩ :=
      Node.enterUp_sides side (n.modSide side (SideUnit.proved n.params.silenceLimit))
    refine ⟨?_, ?_, hrun, ?_⟩
    · rw [Node.side, hline]
      cases side <;> rfl
    · rw [Node.side, hline]
      cases side <;> rfl
    · obtain ⟨l, r, p, h⟩ :=
        Node.enterUp_eq side (n.modSide side (SideUnit.proved n.params.silenceLimit))
      rw [h]
      rfl

/-! ### The neighbour record (R46) -/

theorem Node.recordNeighbour_sides {n : Node} {s : Side} {id run : Byte} {r : RunState}
    (hrun : runStateOf run.toNat = some r) :
    (n.recordNeighbour s [id, run]).line = n.line.modSide s (fun u =>
        { u with neighbourId := some id.toNat, neighbourRunState := some r }) ∧
      ((∀ old ∈ (n.side s).neighbourId, old = id.toNat) →
        (n.recordNeighbour s [id, run]).reports = n.reports) := by
  simp only [Node.recordNeighbour, hrun]
  cases hold : (n.side s).neighbourId with
  | none => exact ⟨rfl, fun _ => rfl⟩
  | some old =>
    by_cases hsame : old = id.toNat
    · simp [hsame, Node.modSide_line]
    · simp [hsame, Node.modSide_line]

/-- Settles O16. -/
theorem idleHeard : Obligations.IdleHeard := by
  unfold Obligations.IdleHeard
  intro n q side header id run r hears hrun
  have hreceive : n.receive side (header.telegram .idle .toEnd [id, run]) =
      (n.loadSilence side).recordNeighbour side [id, run] := by
    rw [Node.receive_up _ _ _ hears]
    exact if_pos rfl
  obtain ⟨hline, hreports⟩ := Node.recordNeighbour_sides (n := n.loadSilence side) (s := side) (id := id) hrun
  refine ⟨_, next_congr q hreceive, ?_, ?_, fun hold => hreports ?_, ?_⟩
  · rw [Node.side, hline]
    cases side <;> rfl
  · rw [Node.side, hline]
    cases side <;> rfl
  · rw [Node.loadSilence, Node.modSide_side]
    exact hold
  · obtain ⟨l, p, h⟩ := Node.recordNeighbour_eq side [id, run] (n.loadSilence side)
    rw [h]
    rfl

/-! ### Telegrams that pass through (R55 to R57, R60, R62) -/

theorem Node.switchPath_of_pathKind {n : Node} {s : Side} {t : Telegram} (h : pathKind t.kind = true) :
    n.switchPath s t = n.routePath s t := by
  unfold Node.switchPath
  cases hk : t.kind <;> simp_all [pathKind]

theorem Node.switchEnd_of_endKind {n : Node} {s : Side} {t : Telegram} (h : endKind t.kind = true) :
    n.switchEnd s t = n.forward s t := by
  unfold Node.switchEnd
  cases hk : t.kind <;> simp_all [endKind]

theorem Node.routePath_of_not_here {n : Node} {s : Side} {t : Telegram}
    (h : t.hop ≠ t.target ∨ n.validId = false) : n.routePath s t = n.forward s t := by
  unfold Node.routePath
  rw [if_neg]
  simpa only [Bool.and_eq_true, beq_iff_eq, not_and_or, Bool.not_eq_true] using h

theorem ne_idle_of_pathKind {k : Kind} (h : pathKind k = true) : k ≠ .idle := by
  rintro rfl
  cases h

theorem ne_idle_of_endKind {k : Kind} (h : endKind k = true) : k ≠ .idle := by
  rintro rfl
  cases h

/-- A telegram of END or BOTH_ENDS that a side hears reaches the switch's END handling. -/
theorem Node.receive_end {n : Node} {s : Side} {k : Kind} {header : Header} {both : Bool}
    {body : List Byte} (hears : n.Hears s (header.telegram k (endRoute both) body)) (hk : k ≠ .idle) :
    n.receive s (header.telegram k (endRoute both) body) =
      (n.loadSilence s).switchEnd s (hopped (header.telegram k (endRoute both) body)) := by
  rw [Node.receive_switch hears hk]
  cases both <;> rfl

/-- A PATH telegram that cannot go on because the opposite side is not UP owes a notice (R60, R62). -/
theorem Node.forward_of_down {n : Node} {s : Side} {t : Telegram} (hdown : n.isUp s.other = false)
    (hpath : t.route = .path) (hreply : isReply t.kind = false) :
    n.forward s t = n.notify s .sideDown t := by
  have hnotice : (⟨t, .forwarded s⟩ : Queued).noticeSide = some s := by
    simp [Queued.noticeSide, hpath, hreply]
  simp [Node.forward, Node.offer, hdown, hnotice]

/-- Settles O17: each way through the switch ends in a join on one side. -/
theorem telegramsRouted : Obligations.TelegramsRouted := by
  unfold Obligations.TelegramsRouted
  refine ⟨?path, ?notice, ?toEnd⟩
  case path =>
    intro n q side kind header body hears hkind hnot hup hroom
    refine next_congr q ?_
    rw [Node.receive_switch hears (ne_idle_of_pathKind hkind)]
    change (n.loadSilence side).switchPath side (hopped (header.telegram kind .path body)) = _
    rw [Node.switchPath_of_pathKind hkind, Node.routePath_of_not_here hnot, Node.forward_of_hasRoom]
    · rfl
    · rwa [Node.loadSilence_isUp]
    · rwa [Node.loadSilence_side_other]
  case notice =>
    intro n q side kind header body hup hgood hkind hreply hid hroom hnot
    refine next_congr q ?_
    have hreceive : n.receive side (header.telegram kind .path body) =
        (n.loadSilence side).switch side (header.telegram kind .path body) := by
      simp only [Node.receive, hgood, if_true, Node.receiveGood, hup, Node.receiveUp]
      exact if_neg (ne_idle_of_pathKind hkind)
    have hnotify (c : NoticeCause) :
        (n.loadSilence side).notify side c (hopped (header.telegram kind .path body)) =
          (n.loadSilence side).modSide side (·.join
            ⟨pathNotice (n.loadSilence side) c (hopped (header.telegram kind .path body)), .here⟩) :=
      Node.notify_of_hasRoom hid (by rwa [Node.loadSilence_isUp]) (by rwa [Node.loadSilence_hasRoom])
    rw [hreceive]
    by_cases hhop : header.hop.toNat < 126
    · obtain ⟨htarget, hdown⟩ := hnot hhop
      rw [if_pos hhop, Node.switch_below _ _ _ hhop]
      change (n.loadSilence side).switchPath side (hopped (header.telegram kind .path body)) = _
      rw [Node.switchPath_of_pathKind hkind, Node.routePath_of_not_here (.inl htarget),
        Node.forward_of_down (by rwa [Node.loadSilence_isUp]) rfl hreply, hnotify]
      rfl
    · have hlimit : (n.loadSilence side).switch side (header.telegram kind .path body) =
          (n.loadSilence side).notify side .hopLimit (hopped (header.telegram kind .path body)) := by
        have hpath : (header.telegram kind .path body).route = .path := rfl
        have hk : isReply (header.telegram kind .path body).kind = false := hreply
        unfold Node.switch
        rw [if_pos (show 126 ≤ (header.telegram kind .path body).hop.toNat from not_lt.mp hhop)]
        simp [Node.hopLimit, hpath, hk]
      rw [if_neg hhop, hlimit, hnotify]
      rfl
  case toEnd =>
    intro n q side both kind header body hears hkind hup hroom
    refine next_congr q ?_
    rw [Node.receive_end hears (ne_idle_of_endKind hkind), Node.switchEnd_of_endKind hkind,
      Node.forward_of_hasRoom]
    · rfl
    · rwa [Node.loadSilence_isUp]
    · rwa [Node.loadSilence_side_other]

/-! ### A passing SAMPLE (R57, R68, R69) -/

/-- The record that the bytes of one SAMPLE record spell. -/
def recordOf (r : List Byte) : SampleRecord :=
  sampleRecordOf (get8 r 0) (get8 r 1) (get16 r 2)

/-- One record's own bytes are read from a body that goes on. -/
theorem sampleRecords_append {r : List Byte} (tail : List Byte)
    (hlen : r.length = if get8 r 1 / 16 % 2 = 1 then 6 else 4) :
    sampleRecords (r ++ tail) = recordOf r :: sampleRecords tail := by
  match r, hlen with
  | [b0, b1, b2, b3], hlen =>
    have hplain : ¬ b1.toNat / 16 % 2 = 1 := fun h => by simp [get8, h] at hlen
    change sampleRecords (b0 :: b1 :: b2 :: b3 :: tail) = _
    rw [sampleRecords.eq_def]
    exact if_neg hplain
  | [b0, b1, b2, b3, b4, b5], hlen =>
    have htwa : b1.toNat / 16 % 2 = 1 := by
      by_contra h
      simp [get8, h] at hlen
    simp [sampleRecords, htwa, recordOf, get8, get16]
  | [], hlen | [_], hlen | [_, _], hlen | [_, _, _], hlen | [_, _, _, _, _], hlen
  | _ :: _ :: _ :: _ :: _ :: _ :: _ :: _, hlen =>
    simp only [List.length_cons, List.length_nil] at hlen
    split at hlen <;> omega

/-- A record that would extend past the body ends the reading. -/
theorem sampleRecords_of_short {rest : List Byte}
    (h : rest.length < 4 ∨ (rest.length < 6 ∧ get8 rest 1 / 16 % 2 = 1)) : sampleRecords rest = [] := by
  match rest, h with
  | [], _ | [_], _ | [_, _], _ | [_, _, _], _ => rfl
  | [b0, b1, b2, b3], h | [b0, b1, b2, b3, b4], h =>
    have htwa : b1.toNat / 16 % 2 = 1 := by simpa [get8] using h
    simp [sampleRecords, htwa]
  | _ :: _ :: _ :: _ :: _ :: _ :: _, h =>
    simp only [List.length_cons] at h
    omega

theorem sampleRecords_flatten {records : List (List Byte)} {rest : List Byte}
    (hrecords : ∀ r ∈ records, r.length = if get8 r 1 / 16 % 2 = 1 then 6 else 4)
    (hrest : rest.length < 4 ∨ (rest.length < 6 ∧ get8 rest 1 / 16 % 2 = 1)) :
    sampleRecords (records.flatten ++ rest) = records.map recordOf := by
  induction records with
  | nil => exact sampleRecords_of_short hrest
  | cons r records ih =>
    rw [List.flatten_cons, List.append_assoc, sampleRecords_append _ (hrecords r (by simp)),
      ih fun x hx => hrecords x (by simp [hx]), List.map_cons]

/-- What one record makes of an entry (R68, R69). -/
def Entry.heard (origin : Nat) (e : Entry) (r : SampleRecord) : Entry :=
  if r.fault then e
  else if e.source = .node origin ∧ e.channel = r.channel then e.take r.level r.value else e

/-- The entries each hear every record in turn; the demand stays. -/
theorem Contribution.readRecords_entries (t : Contribution) (origin : Nat) (rs : List SampleRecord) :
    (∀ i : Fin 16, (t.readRecords origin rs).entries[i] = rs.foldl (Entry.heard origin) t.entries[i]) ∧
      (t.readRecords origin rs).demand = t.demand := by
  induction rs generalizing t with
  | nil => exact ⟨fun _ => rfl, rfl⟩
  | cons r rs ih =>
    obtain ⟨hentries, hdemand⟩ :=
      ih (if r.fault then t else t.read (.node origin) r.channel r.level r.value)
    refine ⟨fun i => (hentries i).trans ?_, hdemand.trans ?_⟩
    · rw [List.foldl_cons]
      congr 1
      unfold Entry.heard
      split <;> simp [Contribution.read]
    · split <;> rfl

/-- Settles O18: the records are read as the body's cutting gives them, and each entry hears them in
turn. -/
theorem sampleRead : Obligations.SampleRead := by
  unfold Obligations.SampleRead
  intro n q side both header records rest body hears hrecords hrest
  have hread : sampleRecords body = records.map recordOf := sampleRecords_flatten hrecords hrest
  let shown := (n.loadSilence side).inspectSample (hopped (header.telegram .sample (endRoute both) body))
  have hreceive : n.receive side (header.telegram .sample (endRoute both) body) =
      shown.forward side (hopped (header.telegram .sample (endRoute both) body)) :=
    Node.receive_end hears (by simp)
  have htable : shown.contribution =
      n.contribution.readRecords header.origin.toNat (records.map recordOf) := by
    rw [← hread]
    rfl
  obtain ⟨hentries, hdemand⟩ :=
    n.contribution.readRecords_entries header.origin.toNat (records.map recordOf)
  obtain ⟨l, p, hforward⟩ :=
    shown.forward_eq side (hopped (header.telegram .sample (endRoute both) body))
  have hkept : (shown.forward side (hopped (header.telegram .sample (endRoute both) body))).contribution =
      n.contribution.readRecords header.origin.toNat (records.map recordOf) := by
    rw [hforward]
    exact htable
  refine ⟨_, next_congr q hreceive, fun i => ?_, ?_, fun hup hroom => ?_, ?_⟩
  · rw [hkept, hentries, List.foldl_map]
    congr 1
    funext e r
    simp only [Entry.heard, recordOf, sampleRecordOf, Entry.take, signedKindCode, get8, get16]
    obtain hfine | hfault := Nat.mod_two_eq_zero_or_one ((r.getD 1 0).toNat / 8)
    · simp only [hfine, zero_ne_one, decide_false, Bool.false_eq_true, if_false, and_true,
        Bool.or_eq_true, beq_iff_eq, or_assoc]
    · simp only [hfault, decide_true, if_true, one_ne_zero, and_false, if_false]
  · rw [hkept, hdemand]
  · have hjoin : shown.forward side (hopped (header.telegram .sample (endRoute both) body)) =
        shown.modSide side.other (·.join
          ⟨hopped (header.telegram .sample (endRoute both) body), .forwarded side⟩) := by
      refine Node.forward_of_hasRoom ?_ ?_
      · exact ((n.loadSilence_isUp side side.other).trans hup)
      · exact (congrArg (·.hasRoom header.cls) (n.loadSilence_side_other side)).trans hroom
    rw [hjoin]
    rfl
  · rw [hforward]
    rfl

/-! ### Side timers and the transmitter (R43, R44, R45, R51) -/

/-- Settles O19. -/
theorem sideTimersAct : Obligations.SideTimersAct := by
  unfold Obligations.SideTimersAct
  intro n q side
  refine ⟨rfl, fun hidle hfree ha hc hs hv => next_congr q ?_, fun hproving hruns => next_congr q ?_⟩
  · have hnone : (n.side side).nextClass = none := SideUnit.nextClass_eq_none.mpr ⟨ha, hc, hs, hv⟩
    rw [Node.expireIdle, if_pos hidle, Node.idleExpired]
    refine Node.modSide_congr ?_
    simp [hfree, hnone, idleTelegram, put8]
  · rw [Node.expireSilence, if_pos hruns, Node.silenceExpired, hproving]

/-- Settles O20: the freed transmitter serves, in the five cases of R51. -/
theorem transmissionCompletes : Obligations.TransmissionCompletes := by
  unfold Obligations.TransmissionCompletes
  intro n q side hbusy
  have hdone : n.transmissionDone side = n.modSide side fun u =>
      ({ u with transmitting := none, idle := some Config.idleTicks } : SideUnit).serve := by
    rw [Node.transmissionDone, if_pos hbusy]
  obtain ⟨halarm, hcontrol, hsample, hservice, hnone⟩ := SideUnit.serve_of_free
    (u := { n.side side with transmitting := none, idle := some Config.idleTicks }) rfl
  refine ⟨_, next_congr q hdone, rfl, n.modSide_other side _, ?_⟩
  rw [Node.modSide_side]
  exact ⟨halarm, hcontrol, hsample, hservice, hnone⟩

end Sys2Proof.Machine
end

section
/-!
Settles O1, O2, O9 and O22, the step, the time and the reset, and O24 and O25, ageing and the draining of
reports.
-/

namespace Sys2Proof.Machine

/-! ### The step and the reset -/

/-- Settles O1. -/
theorem stepRunsFront : Obligations.StepRunsFront := fun c n q => step_cons n c q

/-- Settles O9: the state at reset is one that a power-on reset leaves, and every invariant holds there. -/
theorem soundAtReset : Obligations.SoundAtReset := by
  unfold Obligations.SoundAtReset
  obtain ⟨hzones, hsupply⟩ :=
    (Node.supplied_iff _).1 ((supplied_kept True).powerOn State.reset.node 1)
  exact ⟨line_kept.powerOn State.reset.node 1, reports_kept.powerOn State.reset.node 1,
    doors_kept.powerOn State.reset.node 1, hzones, hsupply⟩

/-! ### The time -/

/-- The tick count, the uptime and the strap value. -/
def Node.stamp (n : Node) : Nat × Nat × BitVec 7 := (n.time.clock, n.time.uptime, n.strap)

theorem Node.withFans_stamp (n : Node) (f : FanEnv → FanRun → FanRun) : (n.withFans f).stamp = n.stamp := by
  obtain ⟨q, h⟩ := n.withFans_eq f
  rw [h]
  rfl

theorem Node.withDoor_stamp (n : Node) (d : Fin 2) (f : DoorEnv → DoorRun → DoorRun) :
    (n.withDoor d f).stamp = n.stamp := by
  obtain ⟨F, q, h⟩ := n.withDoor_eq d f
  rw [h]
  rfl

theorem Node.expireFan_stamp (g : Fin 4) (running : Fan → Timer) (f : FanEnv → FanRun → FanRun) (n : Node) :
    (n.expireFan g running f).stamp = n.stamp := by
  unfold Node.expireFan
  split
  · exact n.withFans_stamp f
  · rfl

theorem Node.expireDoor_stamp (d : Fin 2) (running : Door → Timer) (f : DoorEnv → DoorRun → DoorRun)
    (n : Node) : (n.expireDoor d running f).stamp = n.stamp := by
  unfold Node.expireDoor
  split
  · exact n.withDoor_stamp d f
  · rfl

theorem Node.expireSilence_stamp (s : Side) (n : Node) : (n.expireSilence s).stamp = n.stamp := by
  unfold Node.expireSilence
  split
  · obtain ⟨l, r, q, h⟩ := n.silenceExpired_eq s
    rw [h]
    rfl
  · rfl

theorem Node.expireIdle_stamp (s : Side) (n : Node) : (n.expireIdle s).stamp = n.stamp := by
  unfold Node.expireIdle
  split <;> rfl

theorem Node.expireAckWait_stamp (z : Fin 32) (n : Node) : (n.expireAckWait z).stamp = n.stamp := by
  unfold Node.expireAckWait
  split
  · obtain ⟨l, q, h⟩ := n.closeRecord_eq z (some .downstreamTimeout)
    rw [Node.ackWaitExpired, h]
    rfl
  · rfl

theorem Node.expireBindWait_stamp (z : Fin 32) (n : Node) : (n.expireBindWait z).stamp = n.stamp := by
  unfold Node.expireBindWait
  split
  · obtain ⟨Z, D, F, q, h⟩ := n.bindWaitExpired_eq z
    rw [h]
    rfl
  · rfl

/-- An expiry that is due keeps the stamp if the expiry does. -/
theorem whenDue_stamp {f : Node → Node} (hf : ∀ n, (f n).stamp = n.stamp) (due : Bool) (n : Node) :
    (whenDue due f n).stamp = n.stamp := by
  cases due
  · rfl
  · exact hf n

theorem Node.fanTick_stamp (n : Node) (g : Fin 4) : (n.fanTick g).stamp = n.stamp := by
  have expire (running : Fan → Timer) (f : FanEnv → FanRun → FanRun) :=
    whenDue_stamp (Node.expireFan_stamp g running f)
  exact ((((((expire Fan.windmill _ _ _).trans (expire Fan.runMin _ _ _)).trans
    (expire Fan.rest _ _ _)).trans (expire Fan.coast _ _ _)).trans
    (expire Fan.stageUp _ _ _)).trans (expire Fan.start _ _ _))

theorem Node.doorTick_stamp (n : Node) (d : Fin 2) : (n.doorTick d).stamp = n.stamp := by
  have expire (running : Door → Timer) (f : DoorEnv → DoorRun → DoorRun) :=
    whenDue_stamp (Node.expireDoor_stamp d running f)
  exact ((((expire Door.faultTimer _ _ _).trans (expire Door.assistTail _ _ _)).trans
    (expire Door.leftOpen _ _ _)).trans (expire Door.relatch _ _ _)).trans (expire Door.jam _ _ _)

theorem Node.zoneTick_stamp (n : Node) (z : Fin 32) : (n.zoneTick z).stamp = n.stamp :=
  (whenDue_stamp (Node.expireBindWait_stamp z) _ _).trans (whenDue_stamp (Node.expireAckWait_stamp z) _ _)

theorem Node.sideTick_stamp (n : Node) (s : Side) : (n.sideTick s).stamp = n.stamp :=
  (whenDue_stamp (Node.expireIdle_stamp s) _ _).trans (whenDue_stamp (Node.expireSilence_stamp s) _ _)

theorem Node.decayTick_stamp (n : Node) : n.decayTick.stamp = n.stamp := by
  unfold Node.decayTick
  split <;> rfl

theorem foldl_stamp {ι : Type} {f : Node → ι → Node} (hf : ∀ n i, (f n i).stamp = n.stamp) (l : List ι)
    (n : Node) : (l.foldl f n).stamp = n.stamp := by
  induction l generalizing n with
  | nil => rfl
  | cons i l ih => exact (ih (f n i)).trans (hf n i)

theorem Node.ageingDrain_stamp (n : Node) : n.ageingStep.drain.stamp = n.stamp := by
  obtain ⟨l, q, hdrain⟩ := n.ageingStep.drain_eq
  obtain ⟨q', hage⟩ := n.ageingStep_eq
  rw [hdrain, hage]
  rfl

/-- A tick moves the tick count by one, and takes the uptime second or not. -/
theorem Node.tick_stamp (n : Node) :
    n.tick.stamp = (n.time.clock + 1, n.time.uptime, n.strap) ∨
      n.tick.stamp = (n.time.clock + 1, min Config.maxUptime (n.time.uptime + 1), n.strap) := by
  unfold Node.tick
  extract_lets counted timed decayed sides groups doors zones
  have hzones : zones.stamp = timed.stamp := calc
    zones.stamp
    _ = doors.stamp := foldl_stamp Node.zoneTick_stamp _ _
    _ = groups.stamp := (Node.doorTick_stamp _ 1).trans (groups.doorTick_stamp 0)
    _ = sides.stamp := foldl_stamp Node.fanTick_stamp _ _
    _ = decayed.stamp := (Node.sideTick_stamp _ .east).trans (decayed.sideTick_stamp .west)
    _ = timed.stamp := timed.decayTick_stamp
  have hlast : (if zones.time.clock % 10 = 0 then zones.ageingStep.drain else zones).stamp = timed.stamp := by
    split
    · exact (Node.ageingDrain_stamp zones).trans hzones
    · exact hzones
  rw [hlast]
  by_cases hsecond : counted.time.clock % Config.ticksPerSecond = 0
  · exact .inr (by rw [show timed = _ from if_pos hsecond]; rfl)
  · exact .inl (by rw [show timed = _ from if_neg hsecond]; rfl)

/-- Settles O2. -/
theorem timePasses : Obligations.TimePasses := by
  unfold Obligations.TimePasses
  refine ⟨fun n => ⟨step_nil n, ?_⟩, fun n q => ⟨_, rfl, rfl, rfl, rfl⟩⟩
  obtain h | h := n.tick_stamp
  · obtain ⟨hclock, huptime, hstrap⟩ := by simpa only [Node.stamp, Prod.mk.injEq] using h
    exact ⟨hclock, (min_le_right _ _).trans huptime.ge, hstrap⟩
  · obtain ⟨hclock, huptime, hstrap⟩ := by simpa only [Node.stamp, Prod.mk.injEq] using h
    exact ⟨hclock, (min_le_min_left _ (Nat.le_succ _)).trans huptime.ge, hstrap⟩

/-! ### Power-on reset -/

theorem validStrap_eq_true_iff (straps : BitVec 7) :
    validStrap straps = true ↔ ¬ (straps = 0 ∨ straps = 127) := by
  simp [validStrap, not_or]

/-- Settles O22: the blocks of the reset node, and the one report of a node without a valid ID. -/
theorem powerOnResets : Obligations.PowerOnResets := by
  unfold Obligations.PowerOnResets
  intro n q straps
  have hpower : n.powerOn straps = { n.restarted straps with
      reports := if straps = 0 ∨ straps = 127 then
        { entries := [{ kind := .idInvalid, object := 0, severity := .alarm, detail := straps.toNat,
                        count := 1, first := 0, latest := 0 }] }
      else {} } := by
    unfold Node.powerOn
    by_cases hid : straps = 0 ∨ straps = 127
    · rw [if_pos hid, if_neg (by rwa [validStrap_eq_true_iff, not_not])]
      simp [Node.raise, ReportQueue.add, Node.restarted, Node.reset, Config.reportCapacity, Report.entry]
    · rw [if_neg hid, if_pos ((validStrap_eq_true_iff straps).2 hid)]
      rfl
  refine ⟨_, next_congr q hpower, rfl, rfl, rfl, rfl, rfl, rfl, rfl, ?_⟩
  simp [Node.restarted, Node.reset, Fans.reset, Fan.reset, Channel.reset, Config.ticksPerSecond]
  split <;> simp

/-! ### Ageing (R70) -/

/-- Settles O24: an entry that is not EMPTY ages by its state. -/
theorem ageingSteps : Obligations.AgeingSteps := by
  unfold Obligations.AgeingSteps
  intro n q
  obtain ⟨p, hage⟩ := n.ageingStep_eq
  refine ⟨_, next_congr q hage, fun i => ?_, rfl, rfl⟩
  have hentry : (n.contribution.aged n.params.staleAfter n.params.lapseAfter).entries[i] =
      n.contribution.entries[i].age1 n.params.staleAfter n.params.lapseAfter := by
    simp [Contribution.aged]
  rw [hentry]
  generalize n.contribution.entries[i] = e
  obtain ⟨source, channel, weight, state, level, value, age⟩ := e
  cases state with
  | empty | lapsed => simp [Entry.age1]
  | held => by_cases hlapse : 10 * n.params.lapseAfter ≤ min 65535 (age + 1) <;> simp [Entry.age1, hlapse]
  | live =>
    by_cases hstale : 10 * n.params.staleAfter ≤ min 65535 (age + 1) <;>
      by_cases hlapse : 10 * n.params.lapseAfter ≤ min 65535 (age + 1) <;>
      simp [Entry.age1, hstale, hlapse]

/-! ### Telegrams of this node to both sides (R61) -/

/-- What an offer of a telegram of this node makes of the side (R50 to R53). -/
def SideUnit.offered (u : SideUnit) (e : Queued) : SideUnit :=
  if u.state ≠ .up then u
  else if u.hasRoom e.telegram.cls then u.join e
  else if e.telegram.cls = .sample then u.evictAndJoin e
  else u

theorem SideUnit.offered_of_down {u : SideUnit} {e : Queued} (h : u.state ≠ .up) : u.offered e = u := if_pos h

theorem SideUnit.offered_of_hasRoom {u : SideUnit} {e : Queued} (hup : u.state = .up)
    (hroom : u.hasRoom e.telegram.cls = true) : u.offered e = u.join e := by
  simp [SideUnit.offered, hup, hroom]

/-- For a telegram of this node no notice is owed. -/
theorem Node.offer_here (n : Node) (s : Side) (t : Telegram) :
    n.offer s ⟨t, .here⟩ = n.offerPlain s ⟨t, .here⟩ := by
  have hnotice : (⟨t, .here⟩ : Queued).noticeSide = none := rfl
  unfold Node.offer Node.offerPlain
  rw [hnotice]
  cases t.cls <;> rfl

theorem Node.offerPlain_own (n : Node) (s : Side) (e : Queued) :
    (n.offerPlain s e).side s = (n.side s).offered e := by
  by_cases hup : (n.side s).state = .up
  · by_cases hroom : (n.side s).hasRoom e.telegram.cls = true
    · simp [Node.offerPlain, Node.isUp, SideUnit.offered, hup, hroom]
    · cases hcls : e.telegram.cls <;> rw [hcls] at hroom <;>
        simp [Node.offerPlain, Node.isUp, SideUnit.offered, hup, hroom, hcls]
  · simp [Node.offerPlain, Node.isUp, SideUnit.offered, hup]

/-- A telegram of this node for both ends is offered to each side on its own. -/
theorem Node.sendBoth_side (n : Node) (t : Telegram) (s : Side) :
    (n.sendBoth t).side s = (n.side s).offered ⟨t, .here⟩ := by
  have sent (m : Node) (a : Side) :
      let k := if m.isUp a then m.offer a ⟨t, .here⟩ else m
      k.side a = (m.side a).offered ⟨t, .here⟩ ∧ k.side a.other = m.side a.other := by
    dsimp only
    split
    · rw [Node.offer_here]
      exact ⟨m.offerPlain_own a _, (m.offerPlain_side a _).1⟩
    next hdown =>
      exact ⟨(SideUnit.offered_of_down (by simpa [Node.isUp] using hdown)).symm, rfl⟩
  obtain ⟨hwest, heast⟩ := sent n .west
  have hup : (if n.isUp .west then n.offer .west ⟨t, .here⟩ else n).isUp .east = n.isUp .east :=
    congrArg (fun u : SideUnit => u.state == .up) heast
  obtain ⟨hown, hother⟩ := sent (if n.isUp .west then n.offer .west ⟨t, .here⟩ else n) .east
  rw [hup] at hown hother
  cases s with
  | west => exact hother.trans hwest
  | east => exact hown.trans (congrArg (SideUnit.offered · _) heast)

/-- With room on every side that is UP, a telegram for both ends raises no report. -/
theorem Node.sendBoth_reports (n : Node) (t : Telegram)
    (hroom : ∀ s, n.isUp s = true → (n.side s).hasRoom t.cls = true) :
    (n.sendBoth t).reports = n.reports := by
  have sent (m : Node) (a : Side) (h : m.isUp a = true → (m.side a).hasRoom t.cls = true) :
      let k := if m.isUp a then m.offer a ⟨t, .here⟩ else m
      k.reports = m.reports ∧ k.side a.other = m.side a.other := by
    dsimp only
    split
    next hup =>
      rw [Node.offer_of_hasRoom hup (h hup)]
      exact ⟨rfl, m.modSide_other a _⟩
    · exact ⟨rfl, rfl⟩
  obtain ⟨hreports, heast⟩ := sent n .west (hroom .west)
  have hup : (if n.isUp .west then n.offer .west ⟨t, .here⟩ else n).isUp .east = n.isUp .east :=
    congrArg (fun u : SideUnit => u.state == .up) heast
  obtain ⟨hlast, -⟩ := sent (if n.isUp .west then n.offer .west ⟨t, .here⟩ else n) .east fun h => by
    rw [show (if n.isUp .west then n.offer .west ⟨t, .here⟩ else n).side .east = n.side .east from heast]
    exact hroom .east (hup ▸ h)
  rw [hup] at hlast
  exact hlast.trans hreports

/-! ### Draining (R168, R169) -/

theorem ReportEntry.isInfo_eq_not_isAlarm (e : ReportEntry) : e.isInfo = !e.isAlarm := by
  unfold ReportEntry.isInfo ReportEntry.isAlarm
  cases e.severity <;> rfl

/-- Dropping the first `k` of the members that satisfy `p` takes `k` of those, and no others. -/
theorem dropFirst_countP {α : Type} (p r : α → Bool) (hr : ∀ a, r a = !p a) (k : Nat) (l : List α) :
    (dropFirst p k l).countP p = l.countP p - k ∧ (dropFirst p k l).countP r = l.countP r := by
  induction l generalizing k with
  | nil => cases k <;> simp [dropFirst]
  | cons a l ih =>
    cases k with
    | zero => simp [dropFirst]
    | succ k =>
      obtain ⟨hp, hnot⟩ := ih k
      obtain ⟨hp', hnot'⟩ := ih (k + 1)
      cases ha : p a <;> simp [dropFirst, ha, hr, hp, hp', hnot, hnot']

theorem countP_add_countP_not {α : Type} (p r : α → Bool) (hr : ∀ a, r a = !p a) (l : List α) :
    l.countP p + l.countP r = l.length := by
  rw [List.length_eq_countP_add_countP p]
  congr 1
  refine List.countP_congr fun a _ => ?_
  simp [hr]

/-- A drain takes four entries, or all there are. -/
theorem ReportQueue.left_length (q : ReportQueue) : q.left.length = q.entries.length - 4 := by
  have ha : q.entries.countP ReportEntry.isAlarm = (q.entries.filter ReportEntry.isAlarm).length :=
    List.countP_eq_length_filter
  have hi : q.entries.countP ReportEntry.isInfo = (q.entries.filter ReportEntry.isInfo).length :=
    List.countP_eq_length_filter
  have hpart : ∀ e : ReportEntry, e.isAlarm = !e.isInfo := fun e => by simp [e.isInfo_eq_not_isAlarm]
  have htaken : (q.taken.filter ReportEntry.isAlarm).length = min 4 (q.entries.countP ReportEntry.isAlarm) ∧
      (q.taken.filter ReportEntry.isInfo).length =
        min (4 - q.entries.countP ReportEntry.isAlarm) (q.entries.countP ReportEntry.isInfo) := by
    have halarms : ∀ k, ((q.entries.filter ReportEntry.isAlarm).take k).filter ReportEntry.isInfo = [] :=
      fun k => List.filter_eq_nil_iff.2 fun e he => by
        have := List.mem_filter.1 (List.mem_of_mem_take he)
        simp [e.isInfo_eq_not_isAlarm, this.2]
    have hinfos : ∀ k, ((q.entries.filter ReportEntry.isInfo).take k).filter ReportEntry.isAlarm = [] :=
      fun k => List.filter_eq_nil_iff.2 fun e he => by
        have := List.mem_filter.1 (List.mem_of_mem_take he)
        simp [hpart e, this.2]
    have hown : ∀ (p : ReportEntry → Bool) k,
        ((q.entries.filter p).take k).filter p = (q.entries.filter p).take k :=
      fun p k => List.filter_eq_self.2 fun e he => (List.mem_filter.1 (List.mem_of_mem_take he)).2
    rw [ReportQueue.taken, List.take_append, List.filter_append, List.filter_append, halarms, hinfos, hown,
      hown, List.append_nil, List.nil_append, List.length_take, List.length_take, ha, hi]
    exact ⟨rfl, rfl⟩
  obtain ⟨hx, hy⟩ := htaken
  have hsum := countP_add_countP_not _ _ ReportEntry.isInfo_eq_not_isAlarm q.entries
  have hleft := countP_add_countP_not _ _ ReportEntry.isInfo_eq_not_isAlarm q.left
  obtain ⟨halarm, hinfo⟩ := dropFirst_countP _ _ ReportEntry.isInfo_eq_not_isAlarm
    (q.taken.filter ReportEntry.isAlarm).length q.entries
  obtain ⟨hinfo', halarm'⟩ := dropFirst_countP _ _ hpart (q.taken.filter ReportEntry.isInfo).length
    (dropFirst ReportEntry.isAlarm (q.taken.filter ReportEntry.isAlarm).length q.entries)
  change q.left.countP _ = _ at hinfo' halarm'
  omega

/-- Settles O25. -/
theorem drainTakesFour : Obligations.DrainTakesFour := by
  unfold Obligations.DrainTakesFour
  intro n q
  refine ⟨n.drain, rfl, fun hnot => ?_, fun hready => ?_, ?_⟩
  · simp [Node.drain, hnot]
  · have hdrain : n.drain = Node.sendBoth (reportTelegram n) { n with reports := n.reports.drained } := by
      simp [Node.drain, hready]
    have hroom : ∀ s, n.isUp s = true → (n.side s).hasRoom n.reports.nextClass = true := by
      simp only [Node.drainReady, Bool.and_eq_true, SideUnit.admits, Bool.or_eq_true, bne_iff_ne] at hready
      obtain ⟨⟨-, hwest⟩, heast⟩ := hready
      intro s hup
      have hstate := (n.isUp_iff s).1 hup
      cases s with
      | west => exact hwest.resolve_left (fun h => h hstate)
      | east => exact heast.resolve_left (fun h => h hstate)
    have hreports : n.drain.reports = n.reports.drained := by
      rw [hdrain]
      exact Node.sendBoth_reports _ _ hroom
    rw [hreports]
    refine ⟨n.reports.left_length, n.reports.left_sublist, rfl, rfl, fun s => ?_⟩
    rw [hdrain, Node.sendBoth_side]
    split
    next hup => exact SideUnit.offered_of_hasRoom ((n.isUp_iff s).1 hup) (hroom s hup)
    next hdown => exact SideUnit.offered_of_down fun h => hdown ((n.isUp_iff s).2 h)
  · obtain ⟨l, p, hdrain⟩ := n.drain_eq
    rw [hdrain]

end Sys2Proof.Machine
end

section
/-!
Settles O37 to O40 and O53, the groups: what a timer's expiry, a contact's edge and an order make of a group
machine, without any assumption on the others.
-/

namespace Sys2Proof.Machine

/-! ### Changes of one group -/

theorem upd_congr {α : Type} {k : Nat} {v : Vector α k} {i : Fin k} {f g : α → α} (h : f v[i] = g v[i]) :
    upd v i f = upd v i g := by
  have h' : f v[i.val] = g v[i.val] := h
  simp [upd, h']

theorem upd_upd {α : Type} {k : Nat} (v : Vector α k) (i : Fin k) (f g : α → α) :
    upd (upd v i f) i g = upd v i fun x => g (f x) := by
  simp [upd]

theorem Fans.modGroup_modGroup (F : Fans) (g : Fin 4) (f h : Fan → Fan) :
    (F.modGroup g f).modGroup g h = F.modGroup g fun x => h (f x) :=
  congrArg (fun v => { F with groups := v }) (upd_upd F.groups g f h)

theorem Fans.modGroup_congr {F : Fans} {g : Fin 4} {f h : Fan → Fan} (e : f F.groups[g] = h F.groups[g]) :
    F.modGroup g f = F.modGroup g h :=
  congrArg (fun v => { F with groups := v }) (upd_congr e)

/-! ### A step of the groups within the node -/

/-- A step that raises nothing changes the groups and the account alone. -/
theorem Node.withFans_of_quiet {n : Node} {f : FanEnv → FanRun → FanRun} {F : Fans}
    (hfans : (n.fanRun f).fans = F) (hraised : (n.fanRun f).raised = []) :
    n.withFans f = { n with fans := F } := by
  unfold Node.withFans
  dsimp only
  rw [hfans, hraised]
  rfl

theorem Node.withFans_fans (n : Node) (f : FanEnv → FanRun → FanRun) :
    (n.withFans f).fans = (n.fanRun f).fans := by
  obtain ⟨q, h⟩ := n.withFans_eq f
  rw [h]

theorem Node.withFans_frame (n : Node) (f : FanEnv → FanRun → FanRun) :
    n.withFans f = { n with fans := (n.withFans f).fans, reports := (n.withFans f).reports } := by
  obtain ⟨q, h⟩ := n.withFans_eq f
  rw [h]

theorem Node.setLevel_withFans_frame (n : Node) (i : Fin 24) (v : Bool) (f : FanEnv → FanRun → FanRun) :
    (n.setLevel i v).withFans f =
      { n with inputs := ((n.setLevel i v).withFans f).inputs, fans := ((n.setLevel i v).withFans f).fans,
               reports := ((n.setLevel i v).withFans f).reports } := by
  obtain ⟨q, h⟩ := (n.setLevel i v).withFans_eq f
  rw [h]
  rfl

theorem Node.expireFan_of_running {n : Node} {g : Fin 4} {running : Fan → Timer}
    {f : FanEnv → FanRun → FanRun} (h : (running n.fans.groups[g]).isSome = true) :
    n.expireFan g running f = n.withFans f := if_pos h

/-- A released slot: that of the group, if it is the holder (R92). -/
theorem Fans.releaseSlot_eq (F : Fans) (g : Fin 4) :
    F.releaseSlot g = { F with slot := match F.slot with
      | some (h, p) => if h = g then none else some (h, p)
      | none => none } := by
  obtain ⟨groups, l1, l2, reserves, queue, slot, choices⟩ := F
  cases slot with
  | none => rfl
  | some holder => by_cases h : holder.1 = g <;> simp [Fans.releaseSlot, h]

/-! ### The examination where nothing can be granted (R90) -/

theorem FanRun.examine_of_empty {env : FanEnv} {r : FanRun} (h : r.fans.queue = []) : r.examine env = r := by
  unfold FanRun.examine FanRun.examineWith
  split
  · rfl
  · simp [h, Fans.firstMet]

theorem FanRun.examine_of_slot {env : FanEnv} {r : FanRun} (h : r.fans.slot.isSome = true) :
    r.examine env = r := by
  unfold FanRun.examine FanRun.examineWith
  rw [if_pos (.inr h)]

/-! ### Shutting down, tripping, locking and stopping (R84, R100, R111, R112, R114) -/

/-- A group whose outputs are off, with the draw that is left to it. -/
def Fan.off (f : Fan) (draw : Nat) (zone : Option (Fin 32)) (taken : Nat) : Fan :=
  { f with leg := none, draw := draw, reserveZone := zone, reserveTaken := taken, fwd := false, rev := false,
           high := false, stage := 0, start := none, stageUp := none, runMin := none }

theorem Fan.eq_of_leg_none {f : Fan} (h : f.leg = none) :
    f = { f with leg := none, draw := f.draw, reserveZone := f.reserveZone,
                 reserveTaken := f.reserveTaken } := by
  cases f
  cases h
  rfl

theorem FanRun.shutDown_apart (env : FanEnv) (g : Fin 4) (r : FanRun) :
    ∃ a b c, Fans.Apart g (r.fans.groups[g].off a b c) (r.shutDown env g).fans := by
  obtain ⟨-, -, -, hgroups⟩ := r.fans.returnDraw_frame env g
  have hreturned : ∃ a b c, (((r.fans.returnDraw env g).removeEntry g).releaseSlot g).groups[g] =
      { r.fans.groups[g] with leg := none, draw := a, reserveZone := b, reserveTaken := c } := by
    rw [Fans.releaseSlot_groups, Fans.removeEntry_groups, hgroups]
    split
    next hleg => exact ⟨_, _, _, Fan.eq_of_leg_none hleg⟩
    next => exact ⟨_, _, _, upd_self _ _ _⟩
  obtain ⟨a, b, c, h⟩ := hreturned
  refine ⟨a, b, c, ?_, Fans.entriesOf_nil.1 ?_⟩
  · exact (Fans.modGroup_self _ _ _).trans (congrArg (fun f : Fan => { f with
      fwd := false, rev := false, high := false, stage := 0, start := none, stageUp := none,
      runMin := none }) h)
  · change Fans.entriesOf (((r.fans.returnDraw env g).removeEntry g).releaseSlot g) g = []
    rw [Fans.entriesOf_releaseSlot, Fans.entriesOf_removeEntry_self]

/-- A change of a group that has no entry. -/
theorem Fans.Apart.modGroup {g : Fin 4} {x : Fan} {F : Fans} (h : Fans.Apart g x F) (f : Fan → Fan) :
    Fans.Apart g (f x) (F.modGroup g f) := by
  obtain ⟨hself, hqueue⟩ := h
  exact ⟨by rw [Fans.modGroup_self, hself], hqueue⟩

theorem FanRun.trip_apart (env : FanEnv) (g : Fin 4) (cause : TripCause) (r : FanRun) :
    ∃ a b c, Fans.Apart g
      { r.fans.groups[g].off a b c with
        state := .tripped, tripCause := some cause, pending := none,
        coast := Timer.seconds (env.config g).coastTime } (r.trip env g cause).fans := by
  obtain ⟨a, b, c, h⟩ := r.shutDown_apart env g
  have htripped := h.modGroup fun f => { f with
    state := .tripped, tripCause := some cause, pending := none,
    coast := Timer.seconds (env.config g).coastTime }
  refine ⟨a, b, c, ?_⟩
  unfold FanRun.trip
  dsimp only
  split <;> exact htripped

theorem FanRun.lock_apart (env : FanEnv) (g : Fin 4) (r : FanRun) :
    ∃ a b c, Fans.Apart g
      { r.fans.groups[g].off a b c with
        state := .locked, pending := none, tripCause := none, coast := none, rest := none,
        windmill := none } (r.lock env g).fans := by
  obtain ⟨a, b, c, h⟩ := r.shutDown_apart env g
  exact ⟨a, b, c, h.modGroup fun f => { f with
    state := .locked, pending := none, tripCause := none, coast := none, rest := none,
    windmill := none }⟩

theorem FanRun.enterStopping_apart (env : FanEnv) (g : Fin 4) (cause : StopCause) (keep : Option Target)
    (r : FanRun) :
    ∃ a b c, Fans.Apart g
      { r.fans.groups[g].off a b c with
        state := .stopping, pending := keep, coast := Timer.seconds (env.config g).coastTime }
      (r.enterStopping env g cause keep).fans := by
  obtain ⟨a, b, c, h⟩ := r.shutDown_apart env g
  exact ⟨a, b, c, h.modGroup fun f => { f with
    state := .stopping, pending := keep, coast := Timer.seconds (env.config g).coastTime }⟩

/-- An examination leaves a group without an entry as it is. -/
theorem Fans.Apart.examine {env : FanEnv} {g : Fin 4} {x : Fan} {r : FanRun} (h : Fans.Apart g x r.fans) :
    Fans.Apart g x (r.examine env).fans := (Fans.apart_closed env g x).examine r h

/-! ### Entering QUEUED while the slot is held (R105) -/

theorem FanRun.enterQueued_of_slot {env : FanEnv} {g : Fin 4} {t : Target} {r : FanRun}
    (hslot : r.fans.slot.isSome = true) :
    (r.enterQueued (FanRun.examine env) env g t).fans =
        { r.fans.modGroup g fun f => { f with state := .queued, windmill := none } with
          queue := joinQueue r.fans.queue (startEntry env g t) } ∧
      (r.enterQueued (FanRun.examine env) env g t).raised = r.raised := by
  have hjoined := FanRun.joinEntry_fans env (startEntry env g t)
    (r.modFan g fun f => { f with state := .queued, windmill := none })
  unfold FanRun.enterQueued
  rw [FanRun.examine_of_slot (by rw [hjoined]; exact hslot)]
  refine ⟨hjoined, ?_⟩
  unfold FanRun.joinEntry FanRun.answer
  split <;> rfl

/-- The entry to RUNNING of a group with nothing pending, while no group waits (R107). -/
theorem FanRun.enterRunning_of_empty {env : FanEnv} {g : Fin 4} {r : FanRun} (hempty : r.fans.queue = [])
    (hpending : r.fans.groups[g].pending = none) :
    (r.enterRunning (FanRun.examine env) env g).fans = (r.fans.releaseSlot g).modGroup g fun f =>
      { f with state := .running, start := none, runMin := Timer.seconds (env.config g).runMin } := by
  let ran : FanRun := ((r.modFans fun F => F.releaseSlot g).modFan g fun f =>
    { f with state := .running, start := none, runMin := Timer.seconds (env.config g).runMin }).raise
      .fanRunning g .info (256 * (r.fan g).stage + directionCode (r.fan g).direction)
  have hexamine : ran.examine env = ran :=
    FanRun.examine_of_empty ((Fans.releaseSlot_queue _ _).trans hempty)
  have hran : (ran.fan g).pending = none := by
    refine (congrArg Fan.pending (Fans.modGroup_self _ _ _)).trans ?_
    exact (congrArg (fun v : Vector Fan 4 => v[g].pending) (r.fans.releaseSlot_groups g)).trans hpending
  change FanRun.fans (if env.held then ran.examine env else
    match ((ran.examine env).fan g).pending with
    | none => ran.examine env
    | some t => ((ran.examine env).modFan g fun f => { f with pending := none }).actRunning
        (FanRun.examine env) env g t) = _
  rw [hexamine, hran]
  split <;> rfl

/-! ### The statements -/

/-- Settles O37: a trip, which no examination undoes; and an examination of an empty queue. -/
theorem startTimersExpire : Obligations.StartTimersExpire := by
  unfold Obligations.StartTimersExpire
  intro n q g
  refine ⟨fun hstate hruns => ?_, fun hruns hempty => ?_⟩
  · have hexpire : n.expireStart g = n.withFans fun env r => r.startExpired env g :=
      Node.expireFan_of_running hruns
    have htripped : n.fanRun (fun env r => r.startExpired env g) =
        n.fanRun fun env r => (r.trip env g .noFeedback).examine env := by
      simp only [Node.fanRun, FanRun.startExpired, FanRun.fan, hstate]
    obtain ⟨a, b, c, h⟩ :=
      FanRun.trip_apart n.fanEnv g .noFeedback { fans := n.fans, raised := [], short := [] }
    refine ⟨_, next_congr q hexpire, ?_, n.withFans_frame _⟩
    rw [Node.withFans_fans, htripped]
    dsimp only
    rw [show (n.fanRun fun env r => (r.trip env g .noFeedback).examine env).fans.groups[g] = _ from
      h.examine.1]
    exact ⟨rfl, rfl, rfl, rfl, rfl, rfl, rfl, rfl, rfl, rfl, rfl⟩
  · have hexpire : n.expireStageUp g = n.withFans fun env r => r.stageUpExpired env g :=
      Node.expireFan_of_running hruns
    refine next_congr q (hexpire.trans (Node.withFans_of_quiet ?_ ?_))
    · rw [Node.fanRun, FanRun.stageUpExpired, FanRun.examine_of_empty]
      · exact Fans.releaseSlot_eq _ _
      · exact (Fans.releaseSlot_queue _ _).trans hempty
    · rw [Node.fanRun, FanRun.stageUpExpired, FanRun.examine_of_empty]
      · rfl
      · exact (Fans.releaseSlot_queue _ _).trans hempty

theorem GroupConfig.needed_zero (c : GroupConfig) : c.needed 0 = 0 := by simp [GroupConfig.needed]

/-- A group that enters OFF and is held, or is asked for stage 0 (R99, R102, R111, R113). -/
theorem FanRun.enterOff_of_idle {env : FanEnv} {g : Fin 4} {t : Target} {r : FanRun}
    (h : env.held = true ∨ t.stage = 0) :
    r.enterOff env g t = r.modFan g fun f => { f with
      state := .off, rest := Timer.seconds (env.config g).restMin,
      pending := if env.held = true then f.pending else none } := by
  unfold FanRun.enterOff
  dsimp only
  by_cases hheld : env.held = true
  · rw [if_pos hheld]
    simp only [if_pos hheld]
  · have hneeded : env.needed g t = 0 := by
      rw [FanEnv.needed, h.resolve_left hheld, GroupConfig.needed_zero]
    rw [if_neg hheld, FanRun.actOff, if_pos hneeded]
    simp only [FanRun.modFan, Fans.modGroup_modGroup, if_neg hheld]

theorem FanRun.coastExpired_of_idle {env : FanEnv} {g : Fin 4} {r : FanRun}
    (hstate : (r.fan g).state = .stopping) (h : env.held = true ∨ (r.heldTarget env g).stage = 0) :
    r.coastExpired env g = r.modFan g fun f => { f with
      state := .off, coast := none, rest := Timer.seconds (env.config g).restMin,
      pending := if env.held = true then f.pending else none } := by
  rw [FanRun.coastExpired, if_pos hstate, FanRun.enterOff_of_idle h]
  simp only [FanRun.modFan, Fans.modGroup_modGroup]

/-- Settles O38: the entry to OFF, and the entry to QUEUED behind a held slot. -/
theorem coastAndRestExpire : Obligations.CoastAndRestExpire := by
  unfold Obligations.CoastAndRestExpire
  intro n q g
  refine ⟨fun hstate hruns hidle => ?_, fun t hstate hruns hpending hheld hneeded hopposed hslot => ?_⟩
  · have hexpire : n.expireCoast g = n.withFans fun env r => r.coastExpired env g :=
      Node.expireFan_of_running hruns
    have hrun : n.fanRun (fun env r => r.coastExpired env g) =
        { fans := n.fans.modGroup g fun f => { f with
            state := .off, coast := none, rest := Timer.seconds n.setups[g].config.restMin,
            pending := if n.held = true then f.pending else none }, raised := [], short := [] } :=
      FanRun.coastExpired_of_idle (env := n.fanEnv)
        (r := { fans := n.fans, raised := [], short := [] }) hstate hidle
    exact next_congr q (hexpire.trans (Node.withFans_of_quiet (by rw [hrun]; rfl) (by rw [hrun])))
  · have hexpire : n.expireRest g = n.withFans fun env r => r.restExpired env g :=
      Node.expireFan_of_running hruns
    have hrun : n.fanRun (fun env r => r.restExpired env g) =
        FanRun.enterQueued (FanRun.examine n.fanEnv) n.fanEnv g t
          { fans := n.fans.modGroup g fun f => { f with rest := none, pending := none },
            raised := [], short := [] } := by
      have hself : (n.fans.modGroup g fun f => { f with rest := none }).groups[g] =
          { n.fans.groups[g] with rest := none } := Fans.modGroup_self _ _ _
      rw [Node.fanRun, FanRun.restExpired]
      simp only [FanRun.modFan, FanRun.fan, hself, hstate, hpending]
      rw [if_neg (by rw [show n.fanEnv.held = n.held from rfl, hheld]; simp), FanRun.actOff,
        if_neg (show ¬ n.fanEnv.needed g t = 0 from hneeded)]
      simp only [FanRun.fan, hself, Option.isSome_none, Bool.false_eq_true, false_and, if_false,
        FanRun.airflowCheck]
      rw [if_neg (by rw [show n.fanEnv.opposed g t.direction = n.opposed g t.direction from rfl, hopposed]; simp)]
      simp only [FanRun.modFan, Fans.modGroup_modGroup]
    obtain ⟨hfans, hraised⟩ := FanRun.enterQueued_of_slot (env := n.fanEnv) (g := g) (t := t)
      (r := { fans := n.fans.modGroup g fun f => { f with rest := none, pending := none },
              raised := [], short := [] }) hslot
    refine next_congr q (hexpire.trans (Node.withFans_of_quiet ?_ (by rw [hrun, hraised])))
    rw [hrun, hfans, Fans.modGroup_modGroup]
    rfl

/-- Settles O39: a stop, which no examination undoes, and the entry to QUEUED behind a held slot. -/
theorem runMinAndWindmillExpire : Obligations.RunMinAndWindmillExpire := by
  unfold Obligations.RunMinAndWindmillExpire
  intro n q g
  refine ⟨fun t hstate hruns hpending hheld hstage => ?_, fun hstate hruns hheld hslot => ?_⟩
  · have hexpire : n.expireRunMin g = n.withFans fun env r => r.runMinExpired env g :=
      Node.expireFan_of_running hruns
    let stopped : FanRun :=
      { fans := (n.fans.modGroup g fun f => { f with runMin := none, pending := none }).removeEntry g,
        raised := [], short := [] }
    have hrun : n.fanRun (fun env r => r.runMinExpired env g) =
        (stopped.enterStopping n.fanEnv g .target none).examine n.fanEnv := by
      have hself : (n.fans.modGroup g fun f => { f with runMin := none }).groups[g] =
          { n.fans.groups[g] with runMin := none } := Fans.modGroup_self _ _ _
      have hself' : (n.fans.modGroup g fun f => { f with runMin := none, pending := none }).groups[g] =
          { n.fans.groups[g] with runMin := none, pending := none } := Fans.modGroup_self _ _ _
      have hneeded : n.fanEnv.needed g t = 0 := by rw [FanEnv.needed, hstage, GroupConfig.needed_zero]
      rw [Node.fanRun, FanRun.runMinExpired]
      simp only [FanRun.modFan, FanRun.fan, hself, hstate, hpending, Fans.modGroup_modGroup]
      rw [if_neg (by rw [show n.fanEnv.held = n.held from rfl, hheld]; simp), FanRun.actRunning,
        if_pos (.inl hneeded), FanRun.actStop]
      simp only [FanRun.modFans, FanRun.fan, Fans.removeEntry_groups, hself', Option.isSome_none,
        Bool.false_eq_true, false_and, if_false, if_pos hneeded]
      rfl
    obtain ⟨a, b, c, h⟩ := FanRun.enterStopping_apart n.fanEnv g .target none stopped
    refine ⟨_, next_congr q hexpire, ?_, n.withFans_frame _⟩
    rw [Node.withFans_fans, hrun, h.examine.1]
    exact ⟨rfl, rfl, rfl, rfl, rfl, rfl, rfl, rfl, rfl⟩
  · have hexpire : n.expireWindmill g = n.withFans fun env r => r.windmillExpired env g :=
      Node.expireFan_of_running hruns
    let idle : FanRun :=
      { fans := n.fans.modGroup g fun f => { f with windmill := none }, raised := [], short := [] }
    have hself : idle.fans.groups[g] = { n.fans.groups[g] with windmill := none } := Fans.modGroup_self _ _ _
    have hrun : n.fanRun (fun env r => r.windmillExpired env g) =
        (idle.raise .windmillOverride g .info (n.fanEnv.airMagnitude g)).enterQueued
          (FanRun.examine n.fanEnv) n.fanEnv g n.fans.groups[g].presented := by
      rw [Node.fanRun, FanRun.windmillExpired, if_pos]
      · simp only [FanRun.modFan, FanRun.fan]
        rw [show (n.fans.modGroup g fun f => { f with windmill := none }).groups[g] = _ from hself]
        rfl
      · refine ⟨?_, by rw [show n.fanEnv.held = n.held from rfl, hheld]; simp⟩
        exact (congrArg Fan.state hself).trans hstate
    obtain ⟨hfans, -⟩ := FanRun.enterQueued_of_slot (env := n.fanEnv) (g := g)
      (t := n.fans.groups[g].presented)
      (r := idle.raise .windmillOverride g .info (n.fanEnv.airMagnitude g)) hslot
    refine ⟨_, next_congr q hexpire, ?_, n.withFans_frame _⟩
    rw [Node.withFans_fans, hrun, hfans]
    change ({ (n.fans.modGroup g fun f => { f with windmill := none }).modGroup g _ with queue := _ } : Fans) = _
    rw [Fans.modGroup_modGroup]
    rfl

/-! ### Contacts -/

theorem role_of_runFb : ∀ {i : Fin 24} {g : Fin 4}, i.val = 3 * g.val → role i = .runFb g := by decide

theorem role_of_tripFb : ∀ {i : Fin 24} {g : Fin 4}, i.val = 3 * g.val + 1 → role i = .tripFb g := by decide

theorem role_of_localSwitch : ∀ {i : Fin 24} {g : Fin 4}, i.val = 3 * g.val + 2 → role i = .localSwitch g := by
  decide

theorem Node.levelChange_of_edge {n : Node} {i : Fin 24} {v : Bool} (h : n.inputs[i].level = some !v) :
    n.levelChange i v = (n.setLevel i v).deliverEdge i v := if_pos h

theorem FanRun.localSwitch_true {env : FanEnv} {g : Fin 4} {r : FanRun} (h : (r.fan g).state ≠ .locked) :
    r.localSwitch env g true = (r.lock env g).examine env := by
  rw [FanRun.localSwitch, if_pos rfl, if_neg h]

theorem FanRun.localSwitch_false {env : FanEnv} {g : Fin 4} {r : FanRun} (h : (r.fan g).state = .locked) :
    r.localSwitch env g false = r.modFan g fun f => { f with
      state := .stopping, coast := Timer.seconds (env.config g).coastTime } := by
  rw [FanRun.localSwitch, if_neg Bool.false_ne_true, if_pos h]

/-- Settles O40: the entry to RUNNING with nothing left to do, the two trips, and the LOCAL contact. -/
theorem groupContactsAct : Obligations.GroupContactsAct := by
  unfold Obligations.GroupContactsAct
  refine ⟨?running, ?trips, ?localSwitch⟩
  case running =>
    intro n q g i hi hlevel hstate hpending hempty hslot
    have hedge : n.levelChange i true = (n.setLevel i true).withFans fun env r => r.runFeedback env g true := by
      rw [Node.levelChange_of_edge hlevel, Node.deliverEdge, role_of_runFb hi]
    refine ⟨_, next_congr q hedge, ?_, Node.setLevel_withFans_frame _ _ _ _⟩
    have hrun : (n.setLevel i true).fanRun (fun env r => r.runFeedback env g true) =
        (n.setLevel i true).fanRun fun env r => r.enterRunning (FanRun.examine env) env g := by
      simp only [Node.fanRun, FanRun.runFeedback, FanRun.fan, Node.setLevel_fans, hstate]
    rw [Node.withFans_fans, hrun]
    refine (FanRun.enterRunning_of_empty (r := { fans := n.fans, raised := [], short := [] }) hempty
      hpending).trans ?_
    rw [Fans.releaseSlot_eq, hslot]
    simp [Fans.modGroup]
    rfl
  case trips =>
    intro n q g i v cause hlevel hcase
    have htrip : ∃ f : FanEnv → FanRun → FanRun, n.levelChange i v = (n.setLevel i v).withFans f ∧
        (n.setLevel i v).fanRun f =
          (n.setLevel i v).fanRun fun env r => (r.trip env g cause).examine env := by
      obtain ⟨hi, rfl, rfl, hstate⟩ | ⟨hi, rfl, rfl, hstate⟩ := hcase
      · refine ⟨fun env r => r.runFeedback env g false, ?_, ?_⟩
        · rw [Node.levelChange_of_edge hlevel, Node.deliverEdge, role_of_runFb hi]
        · simp only [Node.fanRun, FanRun.runFeedback, FanRun.fan, Node.setLevel_fans, hstate]
      · refine ⟨fun env r => r.overload env g true, ?_, ?_⟩
        · rw [Node.levelChange_of_edge hlevel, Node.deliverEdge, role_of_tripFb hi]
        · obtain hstate | hstate := hstate <;>
            simp only [Node.fanRun, FanRun.overload, FanRun.fan, Node.setLevel_fans, hstate]
    obtain ⟨f, hedge, hrun⟩ := htrip
    obtain ⟨a, b, c, h⟩ := FanRun.trip_apart (n.setLevel i v).fanEnv g cause
      { fans := n.fans, raised := [], short := [] }
    have hapart := h.examine (env := (n.setLevel i v).fanEnv)
    refine ⟨_, next_congr q hedge, ?_, ?_, Node.setLevel_withFans_frame _ _ _ _⟩
    · rw [Node.withFans_fans, hrun]
      dsimp only
      rw [show ((n.setLevel i v).fanRun fun env r => (r.trip env g cause).examine env).fans.groups[g] = _ from
        hapart.1]
      exact ⟨rfl, rfl, rfl, rfl, rfl, rfl, rfl, rfl, rfl, rfl, rfl, rfl⟩
    · rw [Node.withFans_fans, hrun]
      exact hapart.2
  case localSwitch =>
    intro n q g i hi
    have hedge (v : Bool) (h : n.inputs[i].level = some !v) :
        n.levelChange i v = (n.setLevel i v).withFans fun env r => r.localSwitch env g v := by
      rw [Node.levelChange_of_edge h, Node.deliverEdge, role_of_localSwitch hi]
    refine ⟨fun hlevel hstate => ?_, fun hlevel hstate => ?_⟩
    · obtain ⟨a, b, c, h⟩ := FanRun.lock_apart (n.setLevel i true).fanEnv g
        { fans := n.fans, raised := [], short := [] }
      have hapart := h.examine (env := (n.setLevel i true).fanEnv)
      have hrun : ((n.setLevel i true).fanRun fun env r => r.localSwitch env g true) =
          (n.setLevel i true).fanRun fun env r => (r.lock env g).examine env :=
         FanRun.localSwitch_true (r := { fans := n.fans, raised := [], short := [] }) hstate
      refine ⟨_, next_congr q (hedge true hlevel), ?_, ?_, Node.setLevel_withFans_frame _ _ _ _⟩
      · rw [Node.withFans_fans, hrun]
        dsimp only
        rw [show ((n.setLevel i true).fanRun fun env r => (r.lock env g).examine env).fans.groups[g] = _ from
          hapart.1]
        exact ⟨rfl, rfl, rfl, rfl, rfl, rfl, rfl, rfl, rfl, rfl, rfl, rfl, rfl, rfl⟩
      · rw [Node.withFans_fans, hrun]
        exact hapart.2
    · have hrun : ((n.setLevel i false).fanRun fun env r => r.localSwitch env g false) =
          { fans := n.fans.modGroup g fun f => { f with
              state := .stopping, coast := Timer.seconds n.setups[g].config.coastTime },
            raised := [], short := [] } :=
        FanRun.localSwitch_false (r := { fans := n.fans, raised := [], short := [] }) hstate
      have hquiet : (n.setLevel i false).withFans (fun env r => r.localSwitch env g false) =
          { n.setLevel i false with fans := n.fans.modGroup g fun f => { f with
              state := .stopping, coast := Timer.seconds n.setups[g].config.coastTime } } :=
        Node.withFans_of_quiet (by rw [hrun]) (by rw [hrun])
      exact ⟨_, next_congr q ((hedge false hlevel).trans hquiet), rfl, rfl⟩

/-! ### Orders to the groups (R97, R113, R172) -/

theorem index_of_toNat {k : Nat} {b : Byte} {i : Fin k} (h : b.toNat = i.val) : index k b.toNat = some i :=
  index_of_eq_val h

/-- TRIP_RESET of a group whose coast timer runs, or which is held or asked for stage 0 (R113). -/
theorem FanRun.tripReset_of_idle {env : FanEnv} {g : Fin 4} {r : FanRun} (hheld : env.held = false)
    (h : (r.fan g).coast.isSome = true ∨ (env.target g).stage = 0) :
    r.tripReset env g = r.modFan g fun f =>
      if f.coast.isSome = true then { f with state := .stopping, tripCause := none }
      else { f with state := .off, tripCause := none, pending := none,
                    rest := Timer.seconds (env.config g).restMin } := by
  have hcoast : ((r.modFan g fun f => { f with tripCause := none }).fan g).coast = (r.fan g).coast :=
    (congrArg Fan.coast (Fans.modGroup_self r.fans g fun f => { f with tripCause := none }) :)
  unfold FanRun.tripReset
  dsimp only
  rw [hcoast]
  by_cases hruns : (r.fan g).coast.isSome = true
  · rw [if_pos hruns]
    simp only [FanRun.modFan, Fans.modGroup_modGroup]
    congr 1
    refine Fans.modGroup_congr ?_
    rw [if_pos (show r.fans.groups[g].coast.isSome = true from hruns)]
  · rw [if_neg hruns, FanRun.enterOff_of_idle (.inr (h.resolve_left hruns))]
    simp only [FanRun.modFan, Fans.modGroup_modGroup]
    congr 1
    refine Fans.modGroup_congr ?_
    rw [if_neg (show ¬ r.fans.groups[g].coast.isSome = true from hruns)]
    simp [hheld]

/-- Settles O53: the three orders' bodies, and what each does before its reply. -/
theorem groupOrdersObeyed : Obligations.GroupOrdersObeyed := by
  unfold Obligations.GroupOrdersObeyed
  have targetSet (n : Node) (side : Side) (g : Fin 4) (o : Option (Nat × Direction)) (t : Telegram) :
      let m := ((n.loadSilence side).setOrderTarget g o).sendTo side t
      m.setups = (upd n.setups g fun s => { s with orderTarget := o }) ∧
        m = { n with setups := m.setups, fans := m.fans, line := m.line, reports := m.reports } := by
    obtain ⟨F, p, hset⟩ := (n.loadSilence side).setOrderTarget_eq g o
    obtain ⟨l, p', hsent⟩ := ((n.loadSilence side).setOrderTarget g o).sendTo_eq side t
    dsimp only
    rw [hsent, hset]
    exact ⟨rfl, rfl⟩
  refine ⟨fun n q side header obj p d g hobj => ⟨fun dir H hstage hdir => ?_, fun H => ?_⟩,
    fun n q side header obj a b g hobj H hstate hidle => ?_⟩
  · have horder : orderOf [0, obj, p, d] = .ok (.fanSet g p.toNat dir) := by
      simp [orderOf, index_of_toNat hobj, hdir, hstage]
    exact ⟨_, next_congr q (Node.receive_obeyed H horder rfl), targetSet n side g _ _⟩
  · have horder : orderOf [1, obj, p, d] = .ok (.fanRelease g) := by
      simp [orderOf, index_of_toNat hobj]
    exact ⟨_, next_congr q (Node.receive_obeyed H horder rfl), targetSet n side g _ _⟩
  · have horder : orderOf [2, obj, a, b] = .ok (.tripReset g) := by
      simp [orderOf, index_of_toNat hobj]
    have havailable : n.orderAvailable (.tripReset g) = true := beq_iff_eq.2 hstate
    have hheld : (n.loadSilence side).fanEnv.held = false := by
      obtain ⟨-, -, hrun⟩ := H
      exact beq_eq_false_iff_ne.2 hrun
    have hreset : (n.loadSilence side).fanRun (fun env r => r.tripReset env g) = _ :=
      FanRun.tripReset_of_idle (r := { fans := n.fans, raised := [], short := [] }) hheld hidle
    have hobeyed : (n.loadSilence side).obey (.tripReset g) = _ :=
      Node.withFans_of_quiet rfl (congrArg FanRun.raised hreset)
    obtain ⟨l, q', hsent⟩ := ((n.loadSilence side).obey (.tripReset g)).sendTo_eq side
      (orderReply (n.loadSilence side) (hopped (orderTelegram header 2 obj a b)) .ok)
    refine ⟨_, next_congr q (Node.receive_obeyed H horder havailable), ?_, ?_⟩
    · rw [hsent, hobeyed, hreset]
      rfl
    · rw [hsent, hobeyed]
      rfl

end Sys2Proof.Machine
end

section
/-!
Settles O26 to O28, O41 and O42: the sampling strobe, the delivery of a level to its owner, and what a door
makes of its timers and contacts.
-/

namespace Sys2Proof.Machine

/-! ### What the delivery of a level leaves alone (R117, R118) -/

/-- An edge of a niche input sets the niche-alert latch where it matches and alerts (R120, R121). -/
theorem Node.nicheEdge_frame (i : Fin 24) (v : Bool) (n : Node) :
    ∃ F D p, n.nicheEdge i v = { n with
      nicheAlert := n.nicheAlert || (n.inputs[i].edge.matches v && n.inputs[i].action == .alert),
      fans := F, doors := D, reports := p } := by
  unfold Node.nicheEdge
  dsimp only
  cases hmatch : n.inputs[i].edge.matches v with
  | false => exact ⟨n.fans, n.doors, n.reports, by simp⟩
  | true =>
    cases halert : (n.inputs[i].action == .alert) with
    | false =>
      obtain ⟨p, hraise⟩ := n.raise_eq { kind := .nicheInput, object := i, severity := .info, detail := flag v }
      exact ⟨n.fans, n.doors, p, by simpa using hraise⟩
    | true =>
      obtain ⟨p, hraise⟩ := n.raise_eq { kind := .nicheInput, object := i, severity := .alarm, detail := flag v }
      obtain ⟨D, F, p', h⟩ := Node.refreshDoors_eq { n with reports := p, nicheAlert := true }
      refine ⟨F, D, p', ?_⟩
      simp only [if_true, hraise, h, Bool.true_and, Bool.or_true]

/-- The delivery of a level changes the groups, the doors and the niche-alert latch at most, and the latch for
a niche input alone. -/
theorem Node.deliverEdge_frame (i : Fin 24) (v : Bool) (n : Node) :
    ∃ a F D p, n.deliverEdge i v = { n with nicheAlert := a, fans := F, doors := D, reports := p } ∧
      (role i ≠ .niche → a = n.nicheAlert) := by
  have fans (f : FanEnv → FanRun → FanRun) : ∃ a F D p,
      n.withFans f = { n with nicheAlert := a, fans := F, doors := D, reports := p } ∧
        (role i ≠ .niche → a = n.nicheAlert) := by
    obtain ⟨p, h⟩ := n.withFans_eq f
    exact ⟨n.nicheAlert, _, n.doors, p, h, fun _ => rfl⟩
  have door (d : Fin 2) (f : DoorEnv → DoorRun → DoorRun) : ∃ a F D p,
      n.withDoor d f = { n with nicheAlert := a, fans := F, doors := D, reports := p } ∧
        (role i ≠ .niche → a = n.nicheAlert) := by
    obtain ⟨F, p, h⟩ := n.withDoor_eq d f
    exact ⟨n.nicheAlert, F, _, p, h, fun _ => rfl⟩
  unfold Node.deliverEdge
  split
  · exact fans _
  · exact fans _
  · exact fans _
  · exact door _ _
  · exact door _ _
  · exact door _ _
  · exact fans _
  next hrole =>
    obtain ⟨F, D, p, h⟩ := n.nicheEdge_frame i v
    exact ⟨_, F, D, p, h, fun hne => absurd hrole hne⟩

theorem Node.deliverFirst_frame (i : Fin 24) (v : Bool) (n : Node) :
    ∃ F D p, n.deliverFirst i v = { n with fans := F, doors := D, reports := p } := by
  have fans (f : FanEnv → FanRun → FanRun) :
      ∃ F D p, n.withFans f = { n with fans := F, doors := D, reports := p } := by
    obtain ⟨p, h⟩ := n.withFans_eq f
    exact ⟨_, n.doors, p, h⟩
  have door (d : Fin 2) (f : DoorEnv → DoorRun → DoorRun) :
      ∃ F D p, n.withDoor d f = { n with fans := F, doors := D, reports := p } := by
    obtain ⟨F, p, h⟩ := n.withDoor_eq d f
    exact ⟨F, _, p, h⟩
  have nothing : ∃ F D p, n = { n with fans := F, doors := D, reports := p } :=
    ⟨n.fans, n.doors, n.reports, rfl⟩
  unfold Node.deliverFirst
  split
  · exact nothing
  · exact nothing
  · exact fans _
  · exact door _ _
  · exact door _ _
  · exact nothing
  · exact fans _
  · exact nothing

theorem Node.firstReading_of_absent {n : Node} {i : Fin 24} (v : Bool) (h : n.inputs[i].level = none) :
    n.firstReading i v = (n.setLevel i v).deliverFirst i v := if_pos h

/-- A level that changes or is established is the one change of the inputs. -/
theorem Node.setLevel_inputs (n : Node) (i : Fin 24) (v : Bool) :
    (n.setLevel i v).inputs[i] = { n.inputs[i] with level := some v, count := 0 } ∧
      ∀ j : Fin 24, j ≠ i → (n.setLevel i v).inputs[j] = n.inputs[j] :=
  ⟨upd_self _ _ _, fun j hj => upd_ne n.inputs i j _ hj.symm⟩

/-! ### The sampling strobe (R117, R118) -/

/-- An input after a sample, with the level that is due taken. -/
def Input.strobed (pin : Bool) (p : Input) : Input :=
  if p.debounce < p.nextCount (p.conditioned pin) then
    { p.sample pin with level := some (p.conditioned pin), count := 0 }
  else p.sample pin

/-- A count above the debounce value, which is never below 0, stands for a level that differs. -/
theorem Input.level_of_counted {p : Input} {c v : Bool} (hlevel : p.level = some v)
    (hcount : p.debounce < p.nextCount c) : v = !c := by
  unfold Input.nextCount at hcount
  simp only [hlevel] at hcount
  cases c <;> cases v <;> simp_all

theorem Node.sampleInput_frame (pins : BitVec 24) (n : Node) (i : Fin 24) :
    ∃ a F D p, n.sampleInput pins i = { n with
      inputs := upd n.inputs i (Input.strobed (pins.getLsbD i)), nicheAlert := a, fans := F, doors := D,
      reports := p } := by
  let sampled : Node := { n with inputs := upd n.inputs i (·.sample (pins.getLsbD i)) }
  let c := n.inputs[i].conditioned (pins.getLsbD i)
  have hself : sampled.inputs[i] = n.inputs[i].sample (pins.getLsbD i) := upd_self _ _ _
  have hconditioned : sampled.inputs[i].conditioned sampled.inputs[i].pin = c := by rw [hself]; rfl
  have hdebounce : sampled.inputs[i].debounce = n.inputs[i].debounce := by rw [hself]; rfl
  have hcount : sampled.inputs[i].count = n.inputs[i].nextCount c := by rw [hself]; rfl
  have hlevel : sampled.inputs[i].level = n.inputs[i].level := by rw [hself]; rfl
  change ∃ a F D p, (if sampled.inputs[i].debounce < sampled.inputs[i].count then
    match sampled.inputs[i].level with
    | some _ => sampled.levelChange i (sampled.inputs[i].conditioned sampled.inputs[i].pin)
    | none => sampled.firstReading i (sampled.inputs[i].conditioned sampled.inputs[i].pin)
    else sampled) = _
  rw [hconditioned, hdebounce, hcount]
  by_cases hdue : n.inputs[i].debounce < n.inputs[i].nextCount c
  · have htaken : upd sampled.inputs i (fun p => { p with level := some c, count := 0 }) =
        upd n.inputs i (Input.strobed (pins.getLsbD i)) := by
      rw [upd_upd]
      refine upd_congr ?_
      simp only [Input.strobed]
      rw [if_pos hdue]
    rw [if_pos hdue]
    cases hold : n.inputs[i].level with
    | none =>
      rw [hlevel, hold]
      dsimp only
      rw [Node.firstReading_of_absent c (hlevel.trans hold)]
      obtain ⟨F, D, p, h⟩ := (sampled.setLevel i c).deliverFirst_frame i c
      exact ⟨n.nicheAlert, F, D, p, by rw [h, ← htaken]; rfl⟩
    | some v =>
      rw [hlevel, hold]
      dsimp only
      have hv := Input.level_of_counted hold hdue
      rw [Node.levelChange_of_edge (hlevel.trans (hold.trans (congrArg some hv)))]
      obtain ⟨a, F, D, p, h, -⟩ := (sampled.setLevel i c).deliverEdge_frame i c
      exact ⟨a, F, D, p, by rw [h, ← htaken]; rfl⟩
  · have hplain : sampled.inputs = upd n.inputs i (Input.strobed (pins.getLsbD i)) := by
      change upd n.inputs i (·.sample (pins.getLsbD i)) = _
      refine upd_congr ?_
      simp only [Input.strobed]
      rw [if_neg hdue]
    rw [if_neg hdue]
    exact ⟨n.nicheAlert, n.fans, n.doors, n.reports, by rw [← hplain]⟩

/-- A deed done to every place of a bank in turn, each time to that place alone, does it once to each place. -/
theorem foldl_bank {α : Type} {k : Nat} {bank : Node → Vector α k} {op : Node → Fin k → Node}
    {deed : Fin k → α → α} (hop : ∀ n i, bank (op n i) = upd (bank n) i (deed i)) {l : List (Fin k)}
    (hl : l.Nodup) (n : Node) (j : Fin k) :
    (bank (l.foldl op n))[j] = if j ∈ l then deed j (bank n)[j] else (bank n)[j] := by
  induction l generalizing n with
  | nil => simp
  | cons i l ih =>
    obtain ⟨hi, hl⟩ := List.nodup_cons.1 hl
    rw [List.foldl_cons, ih hl, hop]
    by_cases hj : j = i
    · subst hj
      rw [if_neg hi, if_pos (by simp)]
      exact upd_self _ _ _
    · rw [show (upd (bank n) i (deed i))[j] = (bank n)[j] from upd_ne _ _ _ _ (Ne.symm hj)]
      simp [hj]

theorem inputIndices_nodup : inputIndices.Nodup := by decide

theorem mem_inputIndices : ∀ i : Fin 24, i ∈ inputIndices := by decide

theorem Node.strobe_frame (pins : BitVec 24) (l : List (Fin 24)) (n : Node) :
    ∃ i a F D p, l.foldl (fun n i => n.sampleInput pins i) n =
      { n with inputs := i, nicheAlert := a, fans := F, doors := D, reports := p } := by
  induction l generalizing n with
  | nil => exact ⟨n.inputs, n.nicheAlert, n.fans, n.doors, n.reports, rfl⟩
  | cons i l ih =>
    obtain ⟨a, F, D, p, h⟩ := n.sampleInput_frame pins i
    obtain ⟨i', a', F', D', p', h'⟩ := ih (n.sampleInput pins i)
    refine ⟨i', a', F', D', p', ?_⟩
    rw [List.foldl_cons, h', h]

/-- Settles O26: every input takes its sample once. -/
theorem strobeDebounces : Obligations.StrobeDebounces := by
  unfold Obligations.StrobeDebounces
  intro n q pins
  refine ⟨n.strobe pins, rfl, fun i => ?_, ?_⟩
  · have hop (m : Node) (i : Fin 24) :
        (m.sampleInput pins i).inputs = upd m.inputs i (Input.strobed (pins.getLsbD i)) := by
      obtain ⟨a, F, D, p, h⟩ := m.sampleInput_frame pins i
      rw [h]
    refine (foldl_bank (bank := Node.inputs) (deed := fun i => Input.strobed (pins.getLsbD i)) hop
      inputIndices_nodup n i).trans ?_
    rw [if_pos (mem_inputIndices i)]
    rfl
  · obtain ⟨i, a, F, D, p, h⟩ := Node.strobe_frame pins inputIndices n
    unfold Node.strobe
    rw [h]

/-! ### Owners: the legs (R86 to R88) -/

/-- What LEG_OK shows of a leg is what the groups' steps after it leave. -/
theorem FanRun.legRestored_available (env : FanEnv) (l : Leg) (r : FanRun) :
    ((r.legRestored env l).fans.leg l).available = true := by
  have h := (Fans.Outside.closed env (fun _ => True) _).examine _ (Fans.Outside.refl env (fun _ => True)
    ((r.modFans fun F => F.modLeg l fun x => { x with available := true }).raise .supplyRestored (legCode l)
      .info ((r.modFans fun F => F.modLeg l fun x => { x with available := true }).fans.leg l).free).fans)
  refine (h.leg l trivial).2.trans ?_
  exact congrArg LegRecord.available (Fans.modLeg_leg r.fans l _)

theorem FanRun.legFirst_available (env : FanEnv) (l : Leg) (v : Bool) (r : FanRun) :
    ((r.legFirst env l v).fans.leg l).available = v := by
  have h := (Fans.Outside.closed env (fun _ => True) _).examine _ (Fans.Outside.refl env (fun _ => True)
    (r.modFans fun F => F.modLeg l fun x => { x with available := v }).fans)
  refine (h.leg l trivial).2.trans ?_
  exact congrArg LegRecord.available (Fans.modLeg_leg r.fans l _)

theorem FanRun.legLost_available (env : FanEnv) (l : Leg) (r : FanRun) :
    ((r.legLost env l).fans.leg l).available = false := by
  let lost := r.modFans fun F => F.modLeg l fun x => { x with available := false }
  have C := Fans.Outside.closed env (fun _ => True) lost.fans
  let stopped : FanRun := groupIndices.foldl (fun r g => r.stopOnLeg env l g) lost
  have hstopped : Fans.Outside env (fun _ => True) lost.fans stopped.fans :=
    foldl_fans_kept _ (fun _ => C.stopOnLeg l trivial) (.refl env _ _)
  have h := C.examine (stopped.raise .supplyLost (legCode l) .alarm (r.fans.countOn l)) hstopped
  refine (h.leg l trivial).2.trans ?_
  exact congrArg LegRecord.available (Fans.modLeg_leg r.fans l _)

/-! ### Owners: the doors -/

theorem Node.withDoor_doors (n : Node) (d : Fin 2) (f : DoorEnv → DoorRun → DoorRun) :
    (n.withDoor d f).doors[d] = (f (n.doorEnv d) { door := n.doors[d], raised := [] }).door ∧
      ∀ j : Fin 2, j ≠ d → (n.withDoor d f).doors[j] = n.doors[j] := by
  obtain ⟨F, p, h⟩ := n.withDoor_eq d f
  rw [h]
  refine ⟨by simp, fun j hj => ?_⟩
  have hval : d.val ≠ j.val := fun e => hj (Fin.ext e.symm)
  simp [hval]

theorem Node.withDoor_frame (n : Node) (d : Fin 2) (f : DoorEnv → DoorRun → DoorRun) :
    n.withDoor d f = { n with doors := (n.withDoor d f).doors, fans := (n.withDoor d f).fans,
                              reports := (n.withDoor d f).reports } := by
  obtain ⟨F, p, h⟩ := n.withDoor_eq d f
  rw [h]

/-- A press of PUSH leaves REQUEST among the causes (R123). -/
theorem Door.push_request (env : DoorEnv) (d : Door) : (d.push env).causes.request = true := by
  unfold Door.push
  split
  · assumption
  · have hset : (d.setCauses env { d.causes with request := true }).causes.request = true :=
      congrArg Causes.request (Door.setCauses_frame env _ d).1
    dsimp only
    split
    · exact hset
    · exact hset
    · rfl
    · exact hset
    · exact hset

/-! ### The delivery of a change -/

theorem role_push : role 14 = .push 0 ∧ role 17 = .push 1 := by decide

theorem role_legOk : role 18 = .legOk .l1 ∧ role 19 = .legOk .l2 := by decide

theorem role_niche : ∀ i : Fin 24, 20 ≤ i.val ↔ role i = .niche := by decide

theorem role_closed : ∀ {i : Fin 24} {d : Fin 2}, i.val = 12 + 3 * d.val → role i = .closed d := by decide

theorem role_latched : ∀ {i : Fin 24} {d : Fin 2}, i.val = 13 + 3 * d.val → role i = .latched d := by decide

theorem Node.deliverEdge_push {n : Node} {i : Fin 24} {d : Fin 2} (hrole : role i = .push d) :
    (n.deliverEdge i true).doors[d].causes.request = true := by
  have hdoor : n.deliverEdge i true = n.withDoor d fun env r => r.pushEdge env true := by
    simp only [Node.deliverEdge, hrole]
  rw [hdoor, (n.withDoor_doors d _).1]
  exact Door.push_request _ _

theorem Node.deliverEdge_legOk {n : Node} {i : Fin 24} {v : Bool} {l : Leg} (hrole : role i = .legOk l) :
    ((n.deliverEdge i v).fans.leg l).available = v := by
  have hfans : n.deliverEdge i v =
      n.withFans fun env r => if v then r.legRestored env l else r.legLost env l := by
    simp only [Node.deliverEdge, hrole]
  rw [hfans, Node.withFans_fans]
  cases v
  · exact FanRun.legLost_available _ _ _
  · exact FanRun.legRestored_available _ _ _

/-- Settles O27: each owner's part, and the frame of the delivery. -/
theorem levelChangeDelivered : Obligations.LevelChangeDelivered := by
  unfold Obligations.LevelChangeDelivered
  intro n q i v hlevel
  obtain ⟨a, F, D, p, h, halert⟩ := (n.setLevel i v).deliverEdge_frame i v
  obtain ⟨hself, hother⟩ := n.setLevel_inputs i v
  refine ⟨_, next_congr q (Node.levelChange_of_edge hlevel), ?_, ?_, ?_, ?_, ?_, ?_, ?_, ?_, ?_⟩
  · rw [h]
    exact hself
  · rw [h]
    exact hother
  · rintro rfl
    exact Node.deliverEdge_legOk role_legOk.1
  · rintro rfl
    exact Node.deliverEdge_legOk role_legOk.2
  · rintro rfl rfl
    exact Node.deliverEdge_push role_push.1
  · rintro rfl rfl
    exact Node.deliverEdge_push role_push.2
  · intro hniche
    obtain ⟨F', D', p', h'⟩ := (n.setLevel i v).nicheEdge_frame i v
    have hedge : (n.setLevel i v).deliverEdge i v = (n.setLevel i v).nicheEdge i v := by
      simp only [Node.deliverEdge, (role_niche i).1 hniche]
    rw [hedge, h']
    dsimp only
    rw [hself]
    rfl
  · intro hlow
    rw [h]
    exact halert fun hrole => absurd ((role_niche i).2 hrole) (by omega)
  · rw [h]
    rfl

/-! ### The delivery of a first reading -/

theorem Door.startRelatch_state_of_opened {env : DoorEnv} {d : Door} (h : d.state = .opened) :
    (d.relatchIfEmpty env).state = .opened := by
  unfold Door.relatchIfEmpty
  rw [if_neg (by simp [h])]
  exact h

/-- A leaf that is first read out of its frame finds the door OPEN (R134). -/
theorem DoorRun.closedFirst_open (env : DoorEnv) (r : DoorRun) :
    (r.closedFirst env false).door.state = .opened := by
  refine Door.startRelatch_state_of_opened ?_
  unfold Door.checkPair
  rw [if_neg (by simp)]
  rfl

theorem Node.deliverFirst_localSwitch {n : Node} {i : Fin 24} {g : Fin 4} (hrole : role i = .localSwitch g) :
    (n.deliverFirst i true).fans.groups[g].state = .locked := by
  have hfans : n.deliverFirst i true = n.withFans fun env r => r.localSwitch env g true := by
    simp only [Node.deliverFirst, hrole]
  rw [hfans, Node.withFans_fans, Node.fanRun]
  by_cases hlocked : n.fans.groups[g].state = .locked
  · have hstays : FanRun.localSwitch n.fanEnv g true { fans := n.fans, raised := [], short := [] } =
        { fans := n.fans, raised := [], short := [] } := (if_pos rfl).trans (if_pos hlocked)
    rw [hstays]
    exact hlocked
  · rw [FanRun.localSwitch_true (r := { fans := n.fans, raised := [], short := [] }) hlocked]
    obtain ⟨a, b, c, h⟩ := FanRun.lock_apart n.fanEnv g { fans := n.fans, raised := [], short := [] }
    exact congrArg Fan.state (h.examine (env := n.fanEnv)).1

/-- Settles O28: each owner's part, and the frame of the delivery. -/
theorem firstReadingDelivered : Obligations.FirstReadingDelivered := by
  unfold Obligations.FirstReadingDelivered
  intro n q i v hlevel
  obtain ⟨F, D, p, h⟩ := (n.setLevel i v).deliverFirst_frame i v
  obtain ⟨hself, hother⟩ := n.setLevel_inputs i v
  have hleg {l : Leg} (hrole : role i = .legOk l) :
      (((n.setLevel i v).deliverFirst i v).fans.leg l).available = v := by
    have hfans : (n.setLevel i v).deliverFirst i v =
        (n.setLevel i v).withFans fun env r => r.legFirst env l v := by
      simp only [Node.deliverFirst, hrole]
    rw [hfans, Node.withFans_fans]
    exact FanRun.legFirst_available _ _ _ _
  refine ⟨_, next_congr q (Node.firstReading_of_absent v hlevel), ?_, ?_, ?_, ?_, ?_, ?_, ?_, ?_⟩
  · rw [h]
    exact hself
  · rw [h]
    exact hother
  · rintro rfl
    exact hleg role_legOk.1
  · rintro rfl
    exact hleg role_legOk.2
  · rintro g hi rfl
    exact Node.deliverFirst_localSwitch (role_of_localSwitch hi)
  · rintro d hi rfl
    have hdoor : (n.setLevel i false).deliverFirst i false =
        (n.setLevel i false).withDoor d fun env r => r.closedFirst env false := by
      simp only [Node.deliverFirst, role_closed hi]
    rw [hdoor, ((n.setLevel i false).withDoor_doors d _).1]
    exact DoorRun.closedFirst_open _ _
  · intro hniche
    simp only [Node.deliverFirst, (role_niche i).1 hniche]
    rfl
  · rw [h]
    rfl

end Sys2Proof.Machine
end

section
/-!
Settles O41 and O42, the doors' timers and contacts.
-/

namespace Sys2Proof.Machine

/-! ### Timers of a door (R127 to R132) -/

theorem Node.expireDoor_of_running {n : Node} {d : Fin 2} {running : Door → Timer}
    {f : DoorEnv → DoorRun → DoorRun} (h : (running n.doors[d]).isSome = true) :
    n.expireDoor d running f = n.withDoor d f := if_pos h

/-- A step that makes `f` of a door makes it of that door alone. -/
theorem Node.withDoor_upd {n : Node} {d : Fin 2} {step : DoorEnv → DoorRun → DoorRun} {f : Door → Door}
    (h : (step (n.doorEnv d) { door := n.doors[d], raised := [] }).door = f n.doors[d]) :
    (n.withDoor d step).doors = upd n.doors d f := by
  obtain ⟨F, p, hdoor⟩ := n.withDoor_eq d step
  rw [hdoor, h]
  rfl

/-- Settles O41, timer by timer. -/
theorem doorTimersExpire : Obligations.DoorTimersExpire := by
  unfold Obligations.DoorTimersExpire
  refine ⟨fun n q d hreleased => ⟨fun hruns => ?_, fun hruns => ?_⟩,
    fun n q d => ⟨fun hruns => ?_, fun hruns => ?_, fun hruns => ?_⟩⟩
  · have hexpire : n.expireJam d = n.withDoor d fun env r => r.jamExpired env :=
      Node.expireDoor_of_running hruns
    obtain ⟨hself, hother⟩ := n.withDoor_doors d fun env r => r.jamExpired env
    refine ⟨_, next_congr q hexpire, ?_, hother, n.withDoor_frame d _⟩
    dsimp only
    rw [hself]
    simp only [DoorRun.jamExpired, hreleased]
    exact ⟨rfl, rfl, rfl, rfl, rfl, rfl⟩
  · have hexpire : n.expireRelatch d = n.withDoor d fun env r => r.relatchExpired env :=
      Node.expireDoor_of_running hruns
    obtain ⟨hself, hother⟩ := n.withDoor_doors d fun env r => r.relatchExpired env
    refine ⟨_, next_congr q hexpire, ?_, hother, n.withDoor_frame d _⟩
    rw [hself]
    simp only [DoorRun.relatchExpired, hreleased, DoorRun.mod, Door.relatchNow]
  · have hexpire : n.expireLeftOpen d = n.withDoor d fun env r => r.leftOpenExpired env :=
      Node.expireDoor_of_running hruns
    exact ⟨_, next_congr q hexpire, Node.withDoor_upd rfl, n.withDoor_frame d _⟩
  · have hexpire : n.expireAssistTail d = n.withDoor d fun _ r => r.assistTailExpired :=
      Node.expireDoor_of_running hruns
    exact ⟨_, next_congr q hexpire, Node.withDoor_upd rfl, n.withDoor_frame d _⟩
  · have hexpire : n.expireFault d = n.withDoor d fun env r => r.faultExpired env :=
      Node.expireDoor_of_running hruns
    obtain ⟨hself, hother⟩ := n.withDoor_doors d fun env r => r.faultExpired env
    refine ⟨_, next_congr q hexpire, ?_, hother, n.withDoor_frame d _⟩
    dsimp only
    rw [hself]
    simp only [DoorRun.faultExpired, DoorRun.mod, DoorRun.raise, Door.setCauses_of_fault]
    exact ⟨rfl, rfl, rfl, by simp [Door.formCauses], rfl, rfl, rfl, rfl, rfl, rfl, rfl, rfl⟩

/-! ### Contacts of a door (R126 to R131) -/

theorem DoorRun.leafLeaves_door {env : DoorEnv} {r : DoorRun}
    (h : r.door.state = .secured ∨ r.door.state = .released ∨ r.door.state = .jammed) :
    (r.leafLeaves env).door = r.door.open env := by
  unfold DoorRun.leafLeaves
  obtain h | h | h := h <;> rw [h] <;> rfl

theorem DoorRun.leafReturns_door {env : DoorEnv} {r : DoorRun} (h : r.door.state = .opened) :
    (r.leafReturns env).door = r.door.close env := by
  unfold DoorRun.leafReturns
  rw [h]
  rfl

theorem DoorRun.leafReturns_of_fault {env : DoorEnv} {r : DoorRun} (h : r.door.state = .fault) :
    r.leafReturns env = r := by
  unfold DoorRun.leafReturns
  rw [h]

/-- Outside FAULT a contact's change loads or clears the fault timer and does nothing else (R131). -/
theorem Door.checkPair_of_not_fault {env : DoorEnv} {d : Door} (h : d.state ≠ .fault) :
    d.checkPair env = { d with faultTimer := if env.disagree then some Config.faultTicks else none } :=
  if_neg h

theorem Door.checkPair_of_fault {env : DoorEnv} {d : Door} (h : d.state = .fault)
    (hagree : env.disagree = false) : d.checkPair env = d.leaveFault env := by
  unfold Door.checkPair
  rw [if_pos h, if_neg (by simp [hagree])]

theorem Door.startRelatch_state {env : DoorEnv} {d : Door} (h : d.state ≠ .fault) :
    (d.startRelatch env).state ≠ .fault := by
  unfold Door.startRelatch Door.relatchNow
  split_ifs <;> simp [h]

theorem Door.close_state {env : DoorEnv} {d : Door} : (d.close env).state ≠ .fault := by
  unfold Door.close
  dsimp only
  split
  · exact Door.startRelatch_state (by simp)
  · simp [Door.light]

/-- No change of CLOSED outside FAULT leads to FAULT. -/
theorem DoorRun.leaf_state {env : DoorEnv} {r : DoorRun} (v : Bool) (h : r.door.state ≠ .fault) :
    (if v then r.leafReturns env else r.leafLeaves env).door.state ≠ .fault := by
  cases v
  · cases hs : r.door.state <;> simp_all [DoorRun.leafLeaves, DoorRun.mod, DoorRun.raise, DoorRun.raiseOpened]
  · cases hs : r.door.state
    case opened =>
      rw [if_pos rfl, DoorRun.leafReturns_door hs]
      exact Door.close_state
    all_goals simp_all [DoorRun.leafReturns]

theorem Door.latchChanged_state {env : DoorEnv} {d : Door} (h : d.state ≠ .fault) :
    (d.latchChanged env).state ≠ .fault := by
  unfold Door.latchChanged
  cases hs : d.state <;> simp_all [apply_ite Door.state, ite_eq_iff]

theorem Door.latchChanged_of_fault {env : DoorEnv} {d : Door} (h : d.state = .fault) :
    d.latchChanged env = d := by
  unfold Door.latchChanged
  rw [h]

/-- A door that leaves FAULT with CLOSED true and a cause left is RELEASED (R131). -/
theorem Door.leaveFault_closed {env : DoorEnv} {d : Door} (hclosed : env.closed = some true)
    (hcause : env.unconfigured = true ∨ d.causes.request = true) :
    (d.leaveFault env).state = .released ∧ (d.leaveFault env).causes.dflt = env.unconfigured := by
  have hleft (x : Door) (hstate : x.state = .released) (hcauses : x.causes = d.causes) :
      (x.setCauses env (x.formCauses env)).state = .released ∧
        (x.setCauses env (x.formCauses env)).causes.dflt = env.unconfigured := by
    refine ⟨Door.setCauses_state env (.inr hstate) ?_ (by simp [hstate]), ?_⟩
    · obtain h | h := hcause <;> simp [Causes.isEmpty, Door.formCauses, hcauses, h]
    · rw [(Door.setCauses_frame env _ x).1]
      simp [Door.formCauses, hstate]
  unfold Door.leaveFault
  rw [if_pos hclosed]
  dsimp only
  split
  · exact hleft _ rfl rfl
  · exact hleft _ rfl rfl

/-- A change of the cause set leaves an OPEN door OPEN (R129). -/
theorem Door.setCauses_of_opened (env : DoorEnv) {d : Door} (c : Causes) (h : d.state = .opened) :
    (d.setCauses env c).state = .opened := by
  unfold Door.setCauses Door.causeAppears Door.causesGone
  simp [h]

/-- A door that leaves FAULT with CLOSED false is OPEN (R131). -/
theorem Door.leaveFault_open {env : DoorEnv} {d : Door} (hclosed : env.closed = some false) :
    (d.leaveFault env).state = .opened ∧ (d.leaveFault env).causes.dflt = env.unconfigured := by
  unfold Door.leaveFault
  rw [if_neg (by simp [hclosed])]
  refine ⟨Door.setCauses_of_opened env _ rfl, ?_⟩
  rw [(Door.setCauses_frame env _ _).1]
  simp [Door.formCauses]

/-- What a completed passage leaves of a door (R128, R129). -/
theorem Door.close_frame (env : DoorEnv) (d : Door) :
    (d.close env).causes = { d.causes with request := false } ∧ (d.close env).leftOpen = none ∧
      (d.close env).assistTail = none ∧ (d.close env).assist = false ∧
      ((d.close env).causes.isEmpty = false →
        (d.close env).state = .released ∧ (d.close env).relatch = d.relatch) ∧
      ((d.close env).causes.isEmpty = true → env.closed.isSome = true → env.latched.isSome = true →
        d.config.relatchDelay ≠ 0 →
        (d.close env).state = .released ∧ (d.close env).relatch = Timer.seconds d.config.relatchDelay) := by
  let passed : Door := { d with
    state := .released, causes := { d.causes with request := false }, leftOpen := none,
    assistTail := none, assist := false }
  have hclose : d.close env =
      (if passed.causes.isEmpty = true then passed.startRelatch env else passed).light := rfl
  by_cases hempty : passed.causes.isEmpty = true
  · rw [if_pos hempty] at hclose
    have hkept : (passed.startRelatch env).leftOpen = none ∧ (passed.startRelatch env).assistTail = none ∧
        (passed.startRelatch env).assist = false := by
      unfold Door.startRelatch Door.relatchNow
      split_ifs <;> exact ⟨rfl, rfl, rfl⟩
    obtain ⟨hleft, htail, hassist⟩ := hkept
    have hcauses : (d.close env).causes = passed.causes := by
      rw [hclose]
      exact (passed.startRelatch_frame env).1
    refine ⟨hcauses, by rw [hclose]; exact hleft, by rw [hclose]; exact htail, by rw [hclose]; exact hassist,
      fun hnot => ?_, fun _ hclosed hlatched hdelay => ?_⟩
    · rw [hcauses, hempty] at hnot
      cases hnot
    · have hstart : passed.startRelatch env =
          { passed with relatch := Timer.seconds d.config.relatchDelay } := by
        unfold Door.startRelatch
        rw [if_neg (by simp [Option.isSome_iff_ne_none.1 hclosed, Option.isSome_iff_ne_none.1 hlatched]),
          if_neg hdelay]
      rw [hclose, hstart]
      exact ⟨rfl, rfl⟩
  · rw [if_neg hempty] at hclose
    rw [hclose]
    exact ⟨rfl, rfl, rfl, rfl, fun _ => ⟨rfl, rfl⟩, fun h => absurd h hempty⟩

/-! ### The surroundings of a door after a change of a contact -/

theorem Node.setLevel_contact_self (n : Node) {i : Fin 24} {k : Nat} (v : Bool) (hk : k < 24) (h : i.val = k) :
    (n.setLevel i v).contact k hk = some v := by
  subst h
  exact congrArg Input.level (n.setLevel_inputs i v).1

theorem Node.setLevel_contact_ne (n : Node) {i : Fin 24} {k : Nat} (v : Bool) (hk : k < 24) (h : i.val ≠ k) :
    (n.setLevel i v).contact k hk = n.contact k hk :=
  congrArg Input.level ((n.setLevel_inputs i v).2 ⟨k, hk⟩ fun e => h (congrArg Fin.val e).symm)

theorem Node.setLevel_doorEnv_closed (n : Node) {i : Fin 24} {d : Fin 2} (v : Bool)
    (h : i.val = 12 + 3 * d.val) :
    (n.setLevel i v).doorEnv d = { n.doorEnv d with closed := some v } := by
  have hself := n.setLevel_contact_self v (show 12 + 3 * d.val < 24 by omega) h
  have hne := n.setLevel_contact_ne (i := i) v (show 13 + 3 * d.val < 24 by omega) (by omega)
  unfold Node.doorEnv
  rw [hself, hne]
  rfl

theorem Node.setLevel_doorEnv_latched (n : Node) {i : Fin 24} {d : Fin 2} (v : Bool)
    (h : i.val = 13 + 3 * d.val) :
    (n.setLevel i v).doorEnv d = { n.doorEnv d with latched := some v } := by
  have hself := n.setLevel_contact_self v (show 13 + 3 * d.val < 24 by omega) h
  have hne := n.setLevel_contact_ne (i := i) v (show 12 + 3 * d.val < 24 by omega) (by omega)
  unfold Node.doorEnv
  rw [hself, hne]
  rfl

theorem Node.setLevel_withDoor_frame (n : Node) (i : Fin 24) (v : Bool) (d : Fin 2)
    (f : DoorEnv → DoorRun → DoorRun) :
    (n.setLevel i v).withDoor d f =
      { n with inputs := ((n.setLevel i v).withDoor d f).inputs,
               doors := ((n.setLevel i v).withDoor d f).doors,
               fans := ((n.setLevel i v).withDoor d f).fans,
               reports := ((n.setLevel i v).withDoor d f).reports } := by
  obtain ⟨F, p, h⟩ := (n.setLevel i v).withDoor_eq d f
  rw [h]
  rfl

/-! ### The statement -/

/-- An edge of CLOSED ends in the check of the contact pair. -/
theorem DoorRun.closedEdge_door (env : DoorEnv) (v : Bool) (r : DoorRun) :
    (r.closedEdge env v).door = (if v then r.leafReturns env else r.leafLeaves env).door.checkPair env := rfl

/-- What an edge of CLOSED makes of a door (R126 to R131). -/
theorem DoorRun.closedEdge_spec {env : DoorEnv} {x : Door} {v : Bool} (hclosed : env.closed = some v) :
    let y := (DoorRun.closedEdge env v { door := x, raised := [] }).door
    (v = false → x.state = .secured ∨ x.state = .released ∨ x.state = .jammed →
        y.state = .opened ∧ y.hold = false ∧ y.relatchWait = false ∧ y.jam = none ∧ y.relatch = none ∧
          y.leftOpen = Timer.seconds x.config.leftOpen ∧ y.causes = x.causes) ∧
      (v = true → x.state = .opened →
        y.causes = { x.causes with request := false } ∧ y.leftOpen = none ∧ y.assistTail = none ∧
          y.assist = false ∧
          (y.causes.isEmpty = false → y.state = .released ∧ y.relatch = x.relatch) ∧
          (y.causes.isEmpty = true → env.latched.isSome = true → x.config.relatchDelay ≠ 0 →
            y.state = .released ∧ y.relatch = Timer.seconds x.config.relatchDelay)) ∧
      (x.state ≠ .fault →
        y.faultTimer = if v = false ∧ env.latched = some true then some 100 else none) ∧
      (x.state = .fault → v = true → env.unconfigured = true ∨ x.causes.request = true →
        y.state = .released ∧ y.causes.dflt = env.unconfigured) := by
  dsimp only
  rw [DoorRun.closedEdge_door]
  refine ⟨?leaves, ?returns, ?timer, ?fault⟩
  case leaves =>
    rintro rfl hstate
    rw [if_neg (by simp), DoorRun.leafLeaves_door hstate, Door.checkPair_of_not_fault (by simp)]
    exact ⟨rfl, rfl, rfl, rfl, rfl, rfl, rfl⟩
  case returns =>
    rintro rfl hstate
    rw [if_pos rfl, DoorRun.leafReturns_door hstate, Door.checkPair_of_not_fault Door.close_state]
    obtain ⟨hcauses, hleft, htail, hassist, hheld, hgone⟩ := Door.close_frame env x
    exact ⟨hcauses, hleft, htail, hassist, hheld, fun h => hgone h (by simp [hclosed])⟩
  case timer =>
    intro hstate
    rw [Door.checkPair_of_not_fault (DoorRun.leaf_state (r := { door := x, raised := [] }) v hstate)]
    cases v <;> simp [DoorEnv.disagree, hclosed, Config.faultTicks]
  case fault =>
    rintro hstate rfl hcause
    rw [if_pos rfl, DoorRun.leafReturns_of_fault (r := { door := x, raised := [] }) hstate,
      Door.checkPair_of_fault hstate (by simp [DoorEnv.disagree, hclosed])]
    exact Door.leaveFault_closed hclosed hcause

/-- What an edge of LATCHED makes of a door (R126, R128, R131). -/
theorem DoorRun.latchedEdge_spec {env : DoorEnv} {x : Door} {v : Bool} (hlatched : env.latched = some v) :
    let y := (DoorRun.latchedEdge env { door := x, raised := [] }).door
    (v = false → x.state = .secured → env.closed = some true →
        y.state = .released ∧ y.relatchWait = true ∧ y.hold = x.hold) ∧
      (v = true → x.state = .released → x.relatchWait = true →
        y.state = .secured ∧ y.relatchWait = false ∧ y.hold = x.hold) ∧
      (x.state ≠ .fault →
        y.faultTimer = if v = true ∧ env.closed = some false then some 100 else none) ∧
      (x.state = .fault → v = false → env.closed = some false →
        y.state = .opened ∧ y.causes.dflt = env.unconfigured) := by
  have hdoor : (DoorRun.latchedEdge env { door := x, raised := [] }).door =
      (x.latchChanged env).checkPair env := rfl
  dsimp only
  rw [hdoor]
  refine ⟨?lost, ?seated, ?timer, ?fault⟩
  case lost =>
    rintro rfl hstate hclosed
    have hchanged : x.latchChanged env = { x with state := .released, relatchWait := true } := by
      simp [Door.latchChanged, hstate, hlatched, hclosed]
    rw [hchanged, Door.checkPair_of_not_fault (by simp)]
    exact ⟨rfl, rfl, rfl⟩
  case seated =>
    rintro rfl hstate hwait
    have hchanged : x.latchChanged env = { x with state := .secured, relatchWait := false } := by
      simp [Door.latchChanged, hstate, hlatched, hwait]
    rw [hchanged, Door.checkPair_of_not_fault (by simp)]
    exact ⟨rfl, rfl, rfl⟩
  case timer =>
    intro hstate
    rw [Door.checkPair_of_not_fault (Door.latchChanged_state hstate)]
    cases v <;> simp [DoorEnv.disagree, hlatched, Config.faultTicks]
  case fault =>
    rintro hstate rfl hclosed
    rw [Door.latchChanged_of_fault hstate,
      Door.checkPair_of_fault hstate (by simp [DoorEnv.disagree, hlatched])]
    exact Door.leaveFault_open hclosed

/-- Settles O42: the edge reaches its door, in surroundings that show the new level. -/
theorem doorContactsAct : Obligations.DoorContactsAct := by
  unfold Obligations.DoorContactsAct
  intro n q d i v hlevel hcontact
  dsimp only
  by_cases hi : i.val = 12 + 3 * d.val
  · have hedge : n.levelChange i v = (n.setLevel i v).withDoor d fun env r => r.closedEdge env v := by
      rw [Node.levelChange_of_edge hlevel, Node.deliverEdge, role_closed hi]
    obtain ⟨hself, hother⟩ := (n.setLevel i v).withDoor_doors d fun env r => r.closedEdge env v
    refine ⟨_, next_congr q hedge, ?_, hother, n.setLevel_withDoor_frame i v d _⟩
    rw [hself, n.setLevel_doorEnv_closed v hi]
    obtain ⟨hleaves, hreturns, htimer, hfault⟩ :=
      DoorRun.closedEdge_spec (env := { n.doorEnv d with closed := some v }) (x := n.doors[d]) rfl
    have hnot : ¬ ¬ i.val = 12 + 3 * d.val := not_not_intro hi
    refine ⟨fun _ => hleaves, fun _ => hreturns, fun h => absurd h hnot, fun h => absurd h hnot, fun h => ?_,
      fun h _ => hfault h, fun _ h => absurd h hnot⟩
    rw [Node.setLevel_doors, htimer h]
    simp [hi]
  · have hlatched : i.val = 13 + 3 * d.val := hcontact.resolve_left hi
    have hedge : n.levelChange i v = (n.setLevel i v).withDoor d fun env r => r.latchedEdge env := by
      rw [Node.levelChange_of_edge hlevel, Node.deliverEdge, role_latched hlatched]
    obtain ⟨hself, hother⟩ := (n.setLevel i v).withDoor_doors d fun env r => r.latchedEdge env
    refine ⟨_, next_congr q hedge, ?_, hother, n.setLevel_withDoor_frame i v d _⟩
    rw [hself, n.setLevel_doorEnv_latched v hlatched]
    obtain ⟨hlost, hseated, htimer, hfault⟩ :=
      DoorRun.latchedEdge_spec (env := { n.doorEnv d with latched := some v }) (x := n.doors[d]) rfl
    refine ⟨fun h => absurd h hi, fun h => absurd h hi, fun _ => hlost, fun _ => hseated, fun h => ?_,
      fun _ h => absurd h hi, fun h _ => hfault h⟩
    rw [Node.setLevel_doors, htimer h]
    simp [hi]

end Sys2Proof.Machine
end

section
/-!
Settles O54: the orders that concern the doors, the alerts and the publication.
-/

namespace Sys2Proof.Machine

/-! ### The doors' causes formed again (R124) -/

theorem Node.refreshDoors_causes (n : Node) (d : Fin 2) :
    n.refreshDoors.doors[d].causes = n.doors[d].formCauses (n.doorEnv d) := by
  obtain ⟨hself, hother⟩ := n.withDoor_doors 0 DoorRun.refresh
  obtain ⟨hself', hother'⟩ := (n.withDoor 0 DoorRun.refresh).withDoor_doors 1 DoorRun.refresh
  obtain ⟨F, p, h⟩ := n.withDoor_eq 0 DoorRun.refresh
  fin_cases d
  · change ((n.withDoor 0 DoorRun.refresh).withDoor 1 DoorRun.refresh).doors[(0 : Fin 2)].causes = _
    rw [hother' 0 (by decide), hself]
    exact (DoorRun.refresh_frame _ _).1
  · change ((n.withDoor 0 DoorRun.refresh).withDoor 1 DoorRun.refresh).doors[(1 : Fin 2)].causes = _
    have hdoor : (n.withDoor 0 DoorRun.refresh).doors[(1 : Fin 2)] = n.doors[(1 : Fin 2)] :=
      hother 1 (by decide)
    have hzone : (n.withDoor 0 DoorRun.refresh).zoneCause 1 = n.zoneCause 1 := by
      unfold Node.zoneCause
      rw [hdoor, h]
      rfl
    rw [hself', (DoorRun.refresh_frame _ _).1, hdoor]
    unfold Door.formCauses
    simp only [Node.doorEnv, hzone]
    rw [h]
    rfl

/-! ### Publication (R37 to R40) -/

theorem Sensors.any_included_iff (s : Sensors) :
    s.channels.any (·.included) = true ↔ ∃ i : Fin 8, s.channels[i].included = true := by
  rw [Vector.any_eq_true]
  exact ⟨fun ⟨i, hi, h⟩ => ⟨⟨i, hi⟩, h⟩, fun ⟨i, h⟩ => ⟨i, i.isLt, h⟩⟩

/-- A SAMPLE that has fallen due is offered to each side on its own. -/
theorem Node.publish_spec {n : Node} (hheld : n.held = false) (hid : n.validId = true) :
    ((∃ i : Fin 8, n.sensors.channels[i].included = true) →
        n.publish.sensors = { n.sensors with sampleSequence := n.sensors.sampleSequence + 1 } ∧
          ∀ s, n.publish.side s = (n.side s).offered ⟨sampleTelegram n, .here⟩) ∧
      ((¬ ∃ i : Fin 8, n.sensors.channels[i].included = true) → n.publish = n) := by
  rw [← Sensors.any_included_iff]
  refine ⟨fun hany => ?_, fun hnone => ?_⟩
  · have hpublish : n.publish = Node.sendBoth (sampleTelegram n) { n with
        sensors := { n.sensors with sampleSequence := n.sensors.sampleSequence + 1 } } := by
      simp only [Node.publish, hheld, hid, hany]
      rfl
    rw [hpublish]
    obtain ⟨l, p, h⟩ := Node.sendBoth_eq (sampleTelegram n) { n with
      sensors := { n.sensors with sampleSequence := n.sensors.sampleSequence + 1 } }
    refine ⟨by rw [h], fun s => Node.sendBoth_side _ _ s⟩
  · unfold Node.publish
    rw [if_neg (by simp only [Bool.not_eq_true] at hnone; simp [hnone])]

/-- A reply to a side is offered to that side and no other. -/
theorem Node.sendTo_side (n : Node) (s : Side) (t : Telegram) :
    (n.sendTo s t).side s = (n.side s).offered ⟨t, .here⟩ ∧ (n.sendTo s t).side s.other = n.side s.other := by
  rw [Node.sendTo, Node.offer_here]
  exact ⟨n.offerPlain_own s _, (n.offerPlain_side s _).1⟩

/-- The service of a queue takes telegrams away. -/
theorem SideUnit.serve_queue (u : SideUnit) (c : TelegramClass) :
    (u.serve.queue c).length ≤ (u.queue c).length := by
  unfold SideUnit.serve
  split
  · exact le_rfl
  · split
    · exact le_rfl
    next k _ => cases c <;> cases k <;> simp [SideUnit.setQueue, SideUnit.queue]

/-- A telegram that joins leaves the room of the other classes. -/
theorem SideUnit.join_hasRoom {u : SideUnit} {e : Queued} {c : TelegramClass} (hne : c ≠ e.telegram.cls)
    (hroom : u.hasRoom c = true) : (u.join e).hasRoom c = true := by
  have hother : (u.setQueue e.telegram.cls (u.queue e.telegram.cls ++ [e])).queue c = u.queue c := by
    cases hcls : e.telegram.cls <;> rw [hcls] at hne <;> cases c <;>
      simp_all [SideUnit.setQueue, SideUnit.queue]
  have hle := (u.setQueue e.telegram.cls (u.queue e.telegram.cls ++ [e])).serve_queue c
  rw [hother] at hle
  simp only [SideUnit.hasRoom, decide_eq_true_eq] at hroom ⊢
  exact hle.trans_lt hroom

/-! ### The other orders (R34, R36, R121, R172, R173) -/

theorem Node.obeys_free {n : Node} {s : Side} {t : Telegram} (H : n.Obeys s t) :
    n.held = false ∧ n.validId = true ∧ n.isUp s = true := by
  obtain ⟨⟨⟨hup, -, -⟩, -, hid⟩, -, hrun⟩ := H
  exact ⟨beq_eq_false_iff_ne.2 hrun, hid, hup⟩

/-- Settles O54: the three orders' bodies, and what each does before its reply. -/
theorem doorAlertPublishObeyed : Obligations.DoorAlertPublishObeyed := by
  unfold Obligations.DoorAlertPublishObeyed
  intro n q side header obj p b
  refine ⟨fun d on H hobj hon => ?release, fun H => ?clear, fun H => ?publish⟩
  case release =>
    have horder : orderOf [3, obj, p, b] = .ok (.doorRelease d on) := by
      simp [orderOf, index_of_toNat hobj, hon]
    let door : Node := (n.loadSilence side).withDoor d fun env r => r.setOrder env on
    obtain ⟨hself, hother⟩ := (n.loadSilence side).withDoor_doors d fun env r => r.setOrder env on
    have hframe := (n.loadSilence side).withDoor_frame d fun env r => r.setOrder env on
    obtain ⟨l, p', hsent⟩ := door.sendTo_eq side
      (orderReply (n.loadSilence side) (hopped (orderTelegram header 3 obj p b)) .ok)
    refine ⟨_, next_congr q ((Node.receive_obeyed H horder rfl).trans hsent), ?_, hother, ?_⟩
    · change door.doors[d].causes = _
      rw [hself]
      exact (DoorRun.setOrder_frame _ _ _).1
    · rw [show door = _ from hframe]
      rfl
  case clear =>
    have horder : orderOf [4, obj, p, b] = .ok .alertClear := by simp [orderOf]
    let cleared : Node := { n.loadSilence side with
      sensors := { n.sensors with fireSuspect := false }, nicheAlert := false }
    obtain ⟨D, F, p', hcleared⟩ := cleared.refreshDoors_eq
    obtain ⟨l, p'', hsent⟩ := cleared.refreshDoors.sendTo_eq side
      (orderReply (n.loadSilence side) (hopped (orderTelegram header 4 obj p b)) .ok)
    refine ⟨_, next_congr q ((Node.receive_obeyed H horder rfl).trans hsent), ?_, ?_, fun d => ?_, ?_⟩
    · rw [hcleared]
    · rw [hcleared]
    · change cleared.refreshDoors.doors[d].causes.suspect = false
      rw [Node.refreshDoors_causes]
      rfl
    · rw [hcleared]
      rfl
  case publish =>
    have horder : orderOf [5, obj, p, b] = .ok .publishNow := by simp [orderOf]
    obtain ⟨hheld, hid, hup⟩ := Node.obeys_free H
    obtain ⟨hsome, hnone⟩ := Node.publish_spec (n := n.loadSilence side) hheld hid
    obtain ⟨sequence, l, p', hpublish⟩ := (n.loadSilence side).publish_eq
    let reply := orderReply (n.loadSilence side) (hopped (orderTelegram header 5 obj p b)) .ok
    obtain ⟨l', p'', hsent⟩ := (n.loadSilence side).publish.sendTo_eq side reply
    obtain ⟨hown, hfar⟩ := (n.loadSilence side).publish.sendTo_side side reply
    have hfarSide : (n.loadSilence side).side side.other = n.side side.other := n.loadSilence_side_other side
    have hownUp : ((n.loadSilence side).side side).state = .up := by
      rw [← Node.isUp_iff, Node.loadSilence_isUp, hup]
    have hownRoom (c : TelegramClass) : ((n.loadSilence side).side side).hasRoom c = (n.side side).hasRoom c :=
      n.loadSilence_hasRoom side c
    have hreceive : n.receive side (orderTelegram header 5 obj p b) =
        (n.loadSilence side).publish.sendTo side reply := Node.receive_obeyed H horder rfl
    refine ⟨_, next_congr q hreceive, ?_, ⟨fun hdown => ?_, fun hup' hroom => ?_,
      fun hsample hcontrol => ?_⟩, ?_⟩
    · rw [hsent]
      by_cases hany : ∃ i : Fin 8, n.sensors.channels[i].included = true
      · rw [if_pos hany]
        exact (hsome hany).1
      · rw [if_neg hany]
        exact (congrArg Node.sensors (hnone hany) :)
    · refine hfar.trans ?_
      by_cases hany : ∃ i : Fin 8, n.sensors.channels[i].included = true
      · rw [(hsome hany).2, hfarSide]
        exact SideUnit.offered_of_down (by simpa [Node.isUp] using hdown)
      · rw [hnone hany, hfarSide]
    · refine hfar.trans ?_
      dsimp only
      by_cases hany : ∃ i : Fin 8, n.sensors.channels[i].included = true
      · rw [(hsome hany).2, hfarSide, if_pos hany]
        exact SideUnit.offered_of_hasRoom ((n.isUp_iff _).1 hup') hroom
      · rw [hnone hany, hfarSide, if_neg hany]
    · refine hown.trans ?_
      dsimp only
      by_cases hany : ∃ i : Fin 8, n.sensors.channels[i].included = true
      · rw [(hsome hany).2, if_pos hany,
          SideUnit.offered_of_hasRoom hownUp ((hownRoom .sample).trans hsample)]
        refine SideUnit.offered_of_hasRoom ?_ ?_
        · rw [SideUnit.join_state]
          exact hownUp
        · exact SideUnit.join_hasRoom (by simp [sampleTelegram, reply, orderReply])
            ((hownRoom .control).trans hcontrol)
      · rw [hnone hany, if_neg hany]
        exact SideUnit.offered_of_hasRoom hownUp ((hownRoom .control).trans hcontrol)
    · rw [hsent, hpublish]
      rfl

end Sys2Proof.Machine
end

section
/-!
Settles O55 and O57 to O59, the service unit: READ, START_OPERATION, RESTART and the accepted writes.
-/

namespace Sys2Proof.Machine

/-! ### Requests that are not writes (R174, R176, R180) -/

/-- Settles O55. -/
theorem readServed : Obligations.ReadServed := by
  unfold Obligations.ReadServed
  intro n q side header type idx part o H hobject hlength
  refine next_congr q ?_
  have hread : (n.loadSilence side).serviceRead type.toNat idx.toNat part.toNat =
      { node := n.loadSilence side, status := .ok,
        data := ((n.objectBytes o).drop (43 * part.toNat)).take 43 } := by
    have hbytes : (n.loadSilence side).objectBytes o = n.objectBytes o := by
      cases side <;> cases o <;> rfl
    simp only [Node.serviceRead, hobject, hbytes]
    rw [if_pos hlength]
  have hresult : (n.loadSilence side).serviceResult side (hopped (serviceTelegram header 0 type idx part [])) =
      { node := n.loadSilence side, status := .ok,
        data := ((n.objectBytes o).drop (43 * part.toNat)).take 43 } := hread
  rw [Node.receive_service _ _ _ _ _ _ _ _ H, Node.service, hresult]
  rfl

/-- A request that passes the checks of R174 and asks for the start of operation. -/
theorem Node.receive_start {n : Node} {s : Side} {h : Header} {a b c : Byte}
    (H : n.Serves s (serviceTelegram h 2 a b c [])) :
    n.receive s (serviceTelegram h 2 a b c []) =
      (n.loadSilence s).startOperation.sendTo s
        (serviceReply (n.loadSilence s) (hopped (serviceTelegram h 2 a b c [])) .ok []) := by
  obtain ⟨A, f, r⟩ := H
  have f' : fromHeadEnd (hopped (serviceTelegram h 2 a b c [])) = true := f
  have may : (n.loadSilence s).mayChange s (hopped (serviceTelegram h 2 a b c [])) = true := by
    simp only [Node.mayChange, f', Bool.true_and]
    exact r
  have hresult : (n.loadSilence s).serviceResult s (hopped (serviceTelegram h 2 a b c [])) =
      { node := (n.loadSilence s).startOperation, status := .ok } := if_pos may
  rw [Node.receive_service _ _ _ _ _ _ _ _ A, Node.service, hresult]
  rfl

/-- A request that passes the checks of R174 and asks for a restart (R180). -/
theorem Node.receive_restart {n : Node} {s : Side} {h : Header} {a b c : Byte}
    (H : n.Serves s (serviceTelegram h 3 a b c [])) :
    n.receive s (serviceTelegram h 3 a b c []) =
      ((n.loadSilence s).sendTo s
        (serviceReply (n.loadSilence s) (hopped (serviceTelegram h 3 a b c [])) .ok [])).warmRestart := by
  obtain ⟨A, f, r⟩ := H
  have f' : fromHeadEnd (hopped (serviceTelegram h 3 a b c [])) = true := f
  have may : (n.loadSilence s).mayChange s (hopped (serviceTelegram h 3 a b c [])) = true := by
    simp only [Node.mayChange, f', Bool.true_and]
    exact r
  have hresult : (n.loadSilence s).serviceResult s (hopped (serviceTelegram h 3 a b c [])) =
      { node := n.loadSilence s, status := .ok, restart := true } := if_pos may
  rw [Node.receive_service _ _ _ _ _ _ _ _ A, Node.service, hresult]
  rfl

/-- The causes of a door formed again reach nothing but that door where the groups are held (R99). -/
theorem Node.refreshDoor_of_held {n : Node} (d : Fin 2) (hheld : n.held = true) :
    n.withDoor d DoorRun.refresh = { n with doors := (n.withDoor d DoorRun.refresh).doors } := by
  have hquiet : ∀ m : Node, m.held = true → m.presentGroups = m := fun m hm => by
    have hrun : m.fanRun FanRun.present = { fans := m.fans, raised := [], short := [] } := if_pos hm
    exact Node.withFans_of_quiet (congrArg FanRun.fans hrun) (congrArg FanRun.raised hrun)
  have hdoor : n.withDoor d DoorRun.refresh = { n with doors :=
      (n.doors.set d (DoorRun.refresh (n.doorEnv d) ({ door := n.doors[d], raised := [] } : DoorRun)).door) } :=
    hquiet _ hheld
  rw [hdoor]

theorem Node.refreshDoors_of_held {n : Node} (hheld : n.held = true) :
    n.refreshDoors = { n with doors := n.refreshDoors.doors } := by
  have hfirst := Node.refreshDoor_of_held 0 hheld
  have hsecond := Node.refreshDoor_of_held (n := n.withDoor 0 DoorRun.refresh) 1 (by rw [hfirst]; exact hheld)
  calc
    n.refreshDoors = { n.withDoor 0 DoorRun.refresh with doors := n.refreshDoors.doors } := hsecond
    _ = { n with doors := n.refreshDoors.doors } := by rw [hfirst]

/-- The release of a zone's reserve leaves what is configured, read and drawn on the legs (R85). -/
theorem Fans.release_leg (F : Fans) (z : Fin 32) (l : Leg) :
    ((F.release z).leg l).capacity = (F.leg l).capacity ∧
      ((F.release z).leg l).available = (F.leg l).available ∧
      ((F.release z).leg l).drawn = (F.leg l).drawn := by
  unfold Fans.release
  dsimp only
  rw [Fans.modReserve_leg]
  split
  next k _ =>
    by_cases hk : k = l
    · subst hk
      rw [Fans.modLeg_leg]
      exact ⟨rfl, rfl, rfl⟩
    · rw [Fans.modLeg_ne _ _ hk]
      exact ⟨rfl, rfl, rfl⟩
  next => exact ⟨rfl, rfl, rfl⟩

theorem Fans.releases_frame (l : List (Fin 32)) (F : Fans) :
    (l.foldl Fans.release F).groups = F.groups ∧ (l.foldl Fans.release F).queue = F.queue ∧
      (l.foldl Fans.release F).slot = F.slot ∧
      ∀ k, ((l.foldl Fans.release F).leg k).capacity = (F.leg k).capacity ∧
        ((l.foldl Fans.release F).leg k).available = (F.leg k).available ∧
        ((l.foldl Fans.release F).leg k).drawn = (F.leg k).drawn := by
  induction l generalizing F with
  | nil => exact ⟨rfl, rfl, rfl, fun _ => ⟨rfl, rfl, rfl⟩⟩
  | cons z l ih =>
    obtain ⟨hgroups, hqueue, hslot, -⟩ := F.release_frame z
    obtain ⟨hgroups', hqueue', hslot', hlegs⟩ := ih (F.release z)
    refine ⟨hgroups'.trans hgroups, hqueue'.trans hqueue, hslot'.trans hslot, fun k => ?_⟩
    obtain ⟨hcapacity, havailable, hdrawn⟩ := F.release_leg z k
    obtain ⟨hcapacity', havailable', hdrawn'⟩ := hlegs k
    exact ⟨hcapacity'.trans hcapacity, havailable'.trans havailable, hdrawn'.trans hdrawn⟩

/-- The node as the warm restart leaves it, its doors apart (R180). -/
theorem Node.warmRestart_frame (n : Node) :
    n.warmRestart = { n with
      runState := .unconfigured
      params := { permitWest := n.params.permitWest, permitEast := n.params.permitEast }
      sensors := (Node.reset n.strap).sensors
      contribution := (Node.reset n.strap).contribution
      setups := n.setups.map fun (s : GroupSetup) => { s with demandStage := 0 }
      fans := zoneIndices.foldl Fans.release n.fans
      nicheAlert := false
      zones := (Node.reset n.strap).zones
      reports := {}
      doors := n.warmRestart.doors } :=
  Node.refreshDoors_of_held rfl

/-- The restart keeps REQUEST and ORDER of a door and leaves DEFAULT alone beside them (R135, R180). -/
theorem Node.warmRestart_causes (n : Node) (d : Fin 2) :
    n.warmRestart.doors[d].causes =
      { request := n.doors[d].causes.request, order := n.doors[d].causes.order, dflt := true } := by
  have hzones : ∀ m : Node, m.zones = (Node.reset n.strap).zones → m.zoneCause d = false := fun m hm => by
    simp [Node.zoneCause, Node.activeZone, hm, Node.reset, Zone.active]
    cases m.doors[d.val].config.zone <;> rfl
  refine (Node.refreshDoors_causes _ d).trans ?_
  simp only [Door.formCauses, Node.doorEnv]
  rw [hzones]
  · rfl
  · rfl

/-- Settles O57: the start of operation refreshes the doors of an OPERATIONAL node, the restart those of an
UNCONFIGURED one, whose groups are held. -/
theorem startAndRestart : Obligations.StartAndRestart := by
  unfold Obligations.StartAndRestart
  intro n q side header a b c
  refine ⟨fun H hrun => ?start, fun H => ?restart⟩
  case start =>
    let operational : Node := { n.loadSilence side with runState := .operational }
    let released := operational.withFans FanRun.release
    have hstart : (n.loadSilence side).startOperation = released.refreshDoors := if_pos hrun
    obtain ⟨p, hreleased⟩ := operational.withFans_eq FanRun.release
    have hreceive := Node.receive_start H
    rw [hstart] at hreceive
    obtain ⟨D, F, p', hrefreshed⟩ := released.refreshDoors_eq
    obtain ⟨l, p'', hsent⟩ := released.refreshDoors.sendTo_eq side
      (serviceReply (n.loadSilence side) (hopped (serviceTelegram header 2 a b c [])) .ok [])
    refine ⟨_, next_congr q hreceive, ?_, fun d hdoor => ?_, ?_⟩
    · rw [hsent, hrefreshed]
      exact (congrArg Node.runState hreleased :)
    · rw [hsent]
      change released.refreshDoors.doors[d].causes.dflt = false
      rw [Node.refreshDoors_causes]
      have hdoors : released.doors = n.doors := (congrArg Node.doors hreleased :)
      have hheld : released.held = false := (congrArg Node.held hreleased :)
      simp only [Door.formCauses, Node.doorEnv, hheld, hdoors, Bool.false_or]
      exact beq_eq_false_iff_ne.2 hdoor
    · rw [hsent, hrefreshed, show released = _ from hreleased]
      rfl
  case restart =>
    let reply := serviceReply (n.loadSilence side) (hopped (serviceTelegram header 3 a b c [])) .ok []
    let replied := (n.loadSilence side).sendTo side reply
    obtain ⟨l, p, hsent⟩ := (n.loadSilence side).sendTo_eq side reply
    obtain ⟨hgroups, hqueue, hslot, hlegs⟩ := Fans.releases_frame zoneIndices n.fans
    have hreceive : n.receive side (serviceTelegram header 3 a b c []) = replied.warmRestart :=
      Node.receive_restart H
    have hcauses := replied.warmRestart_causes
    rw [replied.warmRestart_frame] at hreceive
    have hdoors : replied.doors = n.doors := (congrArg Node.doors hsent :)
    have hfans : replied.fans = n.fans := (congrArg Node.fans hsent :)
    have hsetups : replied.setups = n.setups := (congrArg Node.setups hsent :)
    have hparams : replied.params = n.params := (congrArg Node.params hsent :)
    rw [hdoors] at hcauses
    rw [hfans, hsetups, hparams] at hreceive
    have hexec := next_congr q hreceive
    refine ⟨_, hexec, rfl, rfl, fun i => ?channels, rfl, rfl, rfl, fun i => ?entries, rfl,
      fun z => ⟨?zones, n.fans.release_all z⟩, rfl, rfl, fun g => ?setups, hgroups, hqueue, hslot, hlegs,
      hcauses, rfl, (congrArg Node.strap hsent :), (congrArg Node.inputs hsent :),
      (congrArg Node.time hsent :)⟩
    case channels => simp [Node.reset, Channel.reset]
    case entries => simp [Node.reset]
    case zones => simp [Node.reset]
    case setups => simp

/-! ### Accepted and denied writes (R78, R94, R119, R122, R171, R174, R175) -/

/-- A WRITE that passes every check of R174 leaves the node its object is stored in, the reply on its way. -/
theorem Node.receive_write_stores {n m : Node} {s : Side} {h : Header} {a b : Byte} {d : List Byte}
    {o : Object} (H : n.Serves s (serviceTelegram h 1 a b 0 d))
    (hobject : objectOf a.toNat b.toNat = some o) (hlength : o.configLength ≤ d.length)
    (hwrite : (n.loadSilence s).writeObject o d = .ok m) :
    ∃ l p, n.receive s (serviceTelegram h 1 a b 0 d) = { m with line := l, reports := p } := by
  rw [Node.receive_write_of_ok H hobject hlength hwrite]
  exact m.sendTo_eq s _

theorem Node.writeParams_of_parse {n : Node} {d : List Byte} {p : Params} (h : Params.parse d = some p) :
    n.writeParams d = .ok { n with params := p } := by
  simp only [Node.writeParams, h]

theorem Node.writeInput_of_write {n : Node} {i : Fin 24} {d : List Byte} {p : Input}
    (h : n.inputs[i].write d = some p) : n.writeInput i d = .ok { n with inputs := n.inputs.set i p } := by
  simp only [Node.writeInput, h]

/-- A profile write leaves what the input has sampled (R119). -/
theorem Input.write_frame {x p : Input} {d : List Byte} (h : x.write d = some p) :
    p = { x with pull := p.pull, inverted := p.inverted, debounce := p.debounce, edge := p.edge,
                 action := p.action } := by
  unfold Input.write at h
  split at h
  · cases h
    rfl
  · cases h

theorem Node.writeLeg_of_covers {n : Node} {l : Leg} {d : List Byte} (hrange : get16 d 0 ≤ 6000)
    (hcovers : (n.fans.leg l).drawn + (n.fans.leg l).reserved ≤ get16 d 0) :
    n.writeLeg l d =
      .ok ({ n with fans := n.fans.modLeg l fun r => { r with capacity := get16 d 0 } }).examineQueue :=
  if_pos ⟨hrange, hcovers⟩

/-- An examination of the start queue keeps the capacity of both legs (R91). -/
theorem Node.examineQueue_capacity (n : Node) (l : Leg) :
    (n.examineQueue.fans.leg l).capacity = (n.fans.leg l).capacity := by
  have houtside : Fans.Outside n.fanEnv (fun _ => True) n.fans (n.fanRun FanRun.examine).fans :=
    (Fans.Outside.closed n.fanEnv (fun _ => True) n.fans).examine _ (.refl _ _ _)
  rw [Node.examineQueue, Node.withFans_fans]
  exact (houtside.leg l trivial).1

/-- An examination of an empty start queue changes nothing (R91). -/
theorem Node.examineQueue_of_empty {n : Node} (h : n.fans.queue = []) : n.examineQueue = n := by
  have hrun := FanRun.examine_of_empty (env := n.fanEnv)
    (r := { fans := n.fans, raised := [], short := [] }) h
  exact Node.withFans_of_quiet (congrArg FanRun.fans hrun) (congrArg FanRun.raised hrun)

/-- A write of an object that has no configuration part is refused, whatever it carries (R171, R174). -/
theorem objectOf_denied {object : DeniedObject} {idx : Nat}
    (h : (objectOf (deniedType object).toNat idx).isSome = true) :
    ∃ o, objectOf (deniedType object).toNat idx = some o ∧ o.configLength = 0 ∧
      ∀ (n : Node) (d : List Byte), n.writeObject o d = .error .denied := by
  obtain ⟨o, ho⟩ := Option.isSome_iff_exists.1 h
  refine ⟨o, ho, ?_⟩
  cases object with
  | zoneEntry =>
    obtain ⟨z, -, rfl⟩ := Option.map_eq_some_iff.1 (show (index 32 idx).map Object.zone = some o from ho)
    exact ⟨rfl, fun _ _ => rfl⟩
  | reportQueue =>
    have hreports : (if idx = 0 then some Object.reports else none) = some o := ho
    split at hreports
    · cases hreports
      exact ⟨rfl, fun _ _ => rfl⟩
    · cases hreports

/-- Settles O58. -/
theorem plainWritesStored : Obligations.PlainWritesStored := by
  unfold Obligations.PlainWritesStored
  intro n q side header idx data
  refine ⟨fun p H hlength hparse => ?params, fun i p H hi hlength hwrite => ?input,
    fun l H hleg hlength hrange hcovers => ?leg, fun object H hsome => ?denied⟩
  case params =>
    obtain ⟨l, r, hstored⟩ := Node.receive_write_stores (o := .params) H rfl hlength
      (Node.writeParams_of_parse hparse)
    exact ⟨_, next_congr q hstored, rfl⟩
  case input =>
    obtain ⟨l, r, hstored⟩ := Node.receive_write_stores (o := .input i) H
      (congrArg (Option.map Object.input) (index_of_toNat hi)) hlength (Node.writeInput_of_write hwrite)
    exact ⟨_, next_congr q hstored, Input.write_frame hwrite, rfl⟩
  case leg =>
    let written : Node := { n.loadSilence side with
      fans := n.fans.modLeg l fun r => { r with capacity := get16 data 0 } }
    obtain ⟨l', r, hstored⟩ := Node.receive_write_stores (m := written.examineQueue) (o := .leg l) H
      (congrArg (Option.map Object.leg) hleg) hlength (Node.writeLeg_of_covers hrange hcovers)
    obtain ⟨F, r', hexamined⟩ := written.examineQueue_eq
    have hcapacity := written.examineQueue_capacity l
    refine ⟨_, next_congr q hstored, ?_, fun hempty => ?_, ?_⟩
    · exact hcapacity.trans (congrArg LegRecord.capacity (n.fans.modLeg_leg l _))
    · exact congrArg Node.fans (Node.examineQueue_of_empty (n := written) (by
        cases l <;> exact hempty))
    · rw [hexamined]
      rfl
  case denied =>
    obtain ⟨o, hobject, hlength, hwrite⟩ := objectOf_denied hsome
    refine next_congr q ?_
    have hrefused := Node.serviceWrite_of_error (n := n.loadSilence side) (data := data) hobject
      (hlength.symm ▸ Nat.zero_le _) (hwrite _ data)
    rw [Node.receive_write H, show (0 : Byte).toNat = 0 from rfl, hrefused]
    rfl

theorem Node.writeChannel_of_parse {n : Node} {i : Fin 8} {d : List Byte} {c : ChannelConfig}
    (h : ChannelConfig.parse d = some c) (hfits : n.compensationFits i c.compensation = true) :
    n.writeChannel i d =
      .ok (({ n with sensors := { n.sensors with
        channels := n.sensors.channels.set i (Channel.written c) } }).withFans
          fun env r => r.recheckAll env i) := by
  simp only [Node.writeChannel, h, hfits]
  rfl

theorem Node.writeGroup_of_parse {n : Node} {g : Fin 4} {d : List Byte} {c : GroupConfig}
    (h : GroupConfig.parse d = some c) (hfits : n.airflowFits c.airflowChannel = true)
    (hfree : n.groupInUse g = false) : n.writeGroup g d = .ok (n.storeGroup g c) := by
  simp [Node.writeGroup, h, hfits, hfree]

theorem Node.writeDoor_of_parse {n : Node} {i : Fin 2} {d : List Byte} {c : DoorConfig}
    (h : DoorConfig.parse d = some c) (hfits : n.pressureFits c.pressureChannel = true) :
    n.writeDoor i d =
      .ok (({ n with doors := upd n.doors i fun x => { x with config := c } }).withDoor i
        DoorRun.refresh) := by
  simp only [Node.writeDoor, h, hfits]
  rfl

/-- Settles O59. -/
theorem recordWritesStored : Obligations.RecordWritesStored := by
  unfold Obligations.RecordWritesStored
  intro n q side header idx data
  refine ⟨fun i c H hi hlength hparse hfits => ?channel, fun g c H hi hlength hparse hfits hfree => ?group,
    fun d c H hi hlength hparse hfits => ?door⟩
  case channel =>
    let written : Node := { n.loadSilence side with sensors :=
      { n.sensors with channels := n.sensors.channels.set i (Channel.written c) } }
    obtain ⟨l, r, hstored⟩ := Node.receive_write_stores
      (m := written.withFans fun env r => r.recheckAll env i) (o := .channel i) H
      (congrArg (Option.map Object.channel) (index_of_toNat hi)) hlength
      (Node.writeChannel_of_parse hparse hfits)
    obtain ⟨F, r', hchecked⟩ : ∃ F r', (written.withFans fun env r => r.recheckAll env i) =
        { written with fans := F, reports := r' } := ⟨_, written.withFans_eq _⟩
    rw [hchecked] at hstored
    exact ⟨_, next_congr q hstored, rfl, rfl, rfl⟩
  case group =>
    obtain ⟨l, r, hstored⟩ := Node.receive_write_stores (o := .group g) H
      (congrArg (Option.map Object.group) (index_of_toNat hi)) hlength
      (Node.writeGroup_of_parse (n := n.loadSilence side) hparse hfits hfree)
    obtain ⟨F, r', hgroup⟩ := (n.loadSilence side).storeGroup_eq g c
    rw [hgroup] at hstored
    exact ⟨_, next_congr q hstored, rfl, rfl⟩
  case door =>
    let written : Node := { n.loadSilence side with doors := upd n.doors d fun x => { x with config := c } }
    obtain ⟨l, r, hstored⟩ := Node.receive_write_stores (m := written.withDoor d DoorRun.refresh)
      (o := .door d) H (congrArg (Option.map Object.door) (index_of_toNat hi)) hlength
      (Node.writeDoor_of_parse hparse hfits)
    obtain ⟨hself, hothers⟩ := written.withDoor_doors d DoorRun.refresh
    rw [written.withDoor_frame] at hstored
    refine ⟨_, next_congr q hstored, ?_, fun j hj => ?_, rfl⟩
    · refine (congrArg Door.config hself).trans ((DoorRun.refresh_frame _ _).2.1.trans ?_)
      exact congrArg Door.config (upd_self n.doors d _)
    · exact (hothers j hj).trans (upd_ne n.doors d j _ (Ne.symm hj))

end Sys2Proof.Machine
end

section
/-!
Settles O30 to O32 and O35, the measurement chain of one channel: calibration, dose and TWA, classification,
and the range that smoothing keeps.
-/

namespace Sys2Proof.Machine

/-! ### Calibration (R16 to R19) -/

/-- The compensation terms that R17 allows for a configuration: the one of a usable source, or none. -/
theorem compensationTerm_of_usable {channels : Vector Channel 8} {p : Compensation}
    (h : channels[p.source].usable .temperature = true) :
    compensationTerm channels p = some (p.coeff * (channels[p.source].published - p.ref)) :=
  if_pos h

theorem compensationTerm_of_unusable {channels : Vector Channel 8} {p : Compensation}
    (h : ¬ channels[p.source].usable .temperature = true) : compensationTerm channels p = none :=
  if_neg h

theorem Channel.usable_iff (c : Channel) (k : ChannelKind) :
    c.usable k = true ↔ c.config.kind = k ∧ (c.state = .good ∨ c.state = .held) := by
  simp [Channel.usable]

/-- The calibrated value of a result in sixteen-thousandths of a count (R18, R19). -/
def ChannelKind.calibrated (k : ChannelKind) (acc : Int) (lost : Bool) : Calibrated :=
  { value := k.saturate (roundCounts acc), sat := roundCounts acc > 32767 || roundCounts acc < k.bottom,
    compLost := lost }

theorem calibrate_of_none {channels : Vector Channel 8} {cfg : ChannelConfig} (code : Nat)
    (h : cfg.compensation = none) :
    calibrate channels cfg code =
      cfg.kind.calibrated (((code : Int) - cfg.offset) * cfg.gain + 0) false := by
  unfold calibrate
  rw [h]
  rfl

theorem calibrate_of_usable {channels : Vector Channel 8} {cfg : ChannelConfig} {p : Compensation}
    (code : Nat) (h : cfg.compensation = some p) (hp : channels[p.source].usable .temperature = true) :
    calibrate channels cfg code = cfg.kind.calibrated (((code : Int) - cfg.offset) * cfg.gain +
      p.coeff * (channels[p.source].published - p.ref)) false := by
  unfold calibrate
  rw [h]
  dsimp only
  rw [compensationTerm_of_usable hp]
  rfl

theorem calibrate_of_unusable {channels : Vector Channel 8} {cfg : ChannelConfig} {p : Compensation}
    (code : Nat) (h : cfg.compensation = some p) (hp : ¬ channels[p.source].usable .temperature = true) :
    calibrate channels cfg code =
      cfg.kind.calibrated (((code : Int) - cfg.offset) * cfg.gain + 0) true := by
  unfold calibrate
  rw [h]
  dsimp only
  rw [compensationTerm_of_unusable hp]
  rfl

theorem ChannelKind.bottom_cases (k : ChannelKind) : k.bottom = -32768 ∨ k.bottom = 0 := by
  unfold ChannelKind.bottom
  split
  · exact .inl rfl
  · exact .inr rfl

/-- Rounding is to the nearest count, a half upward, within the range of the kind (R18, R19). -/
theorem ChannelKind.calibrated_spec (k : ChannelKind) (acc : Int) (lost : Bool) :
    let v := k.calibrated acc lost
    (v.sat = false → k.bottom ≤ v.value ∧ v.value ≤ 32767 ∧
      16384 * v.value ≤ acc + 8192 ∧ acc + 8192 < 16384 * (v.value + 1)) ∧
    (v.sat = true → (v.value = 32767 ∧ 16384 * 32768 ≤ acc + 8192) ∨
      (v.value = k.bottom ∧ acc + 8192 < 16384 * k.bottom)) := by
  intro v
  have hbottom := k.bottom_cases
  have hvalue : v.value = max k.bottom (min 32767 ((acc + 8192) / 16384)) := rfl
  have hsat : v.sat = true ↔ 32767 < (acc + 8192) / 16384 ∨ (acc + 8192) / 16384 < k.bottom := by
    simp only [v, ChannelKind.calibrated, roundCounts, Bool.or_eq_true]
    exact or_congr decide_eq_true_iff decide_eq_true_iff
  refine ⟨fun h => ?_, fun h => ?_⟩
  · rw [← Bool.not_eq_true, hsat] at h
    omega
  · rw [hsat] at h
    omega

/-! ### A turn in GOOD (R15, R21, R31) -/

@[simp] theorem Channel.addDose_smoothing (c : Channel) : c.addDose.smoothing = c.smoothing := by
  unfold Channel.addDose
  dsimp only
  split_ifs <;> rfl

@[simp] theorem Channel.addDose_published (c : Channel) : c.addDose.published = c.published := by
  unfold Channel.addDose
  dsimp only
  split_ifs <;> rfl

@[simp] theorem Channel.addDose_levelChanged (c : Channel) : c.addDose.levelChanged = c.levelChanged := by
  unfold Channel.addDose
  dsimp only
  split_ifs <;> rfl

theorem Channel.reclassified_smoothing (c : Channel) :
    c.reclassified.smoothing = c.smoothing ∧ c.reclassified.published = c.published := by
  unfold Channel.reclassified
  dsimp only
  split_ifs <;> exact ⟨rfl, rfl⟩

/-- A classification reads nothing that it sets but the level, and marks a level that it changes. -/
theorem Channel.reclassified_level (c : Channel) :
    c.reclassified.level = c.config.classify c.level c.reclassified.levelVariable ∧
      c.reclassified.levelChanged = (c.levelChanged || c.reclassified.level != c.level) := by
  unfold Channel.reclassified
  dsimp only
  split_ifs with h
  · exact ⟨h.symm, by simp⟩
  · exact ⟨rfl, by simp [h]⟩

/-- A turn in GOOD takes the calibrated code through the whole measurement chain. -/
theorem Channel.turn_of_good {channels : Vector Channel 8} {c : Channel} {code : Nat} (i : Fin 8)
    (h : (c.supervise code).state = .good) :
    (c.turn channels i code).1 = ((c.supervised channels code).chain
      (.fresh (!c.hasValue) (calibrate channels c.config code))).reclassified := by
  rw [Channel.turn_eq]
  dsimp only
  rw [cycleResult_of_good channels c _ code h]
  exact if_neg nofun

theorem cycleResult_quality_of_good {channels : Vector Channel 8} {c : Channel} {s : Supervision}
    {code : Nat} (h : s.state = .good) :
    (cycleResult channels c s code).2 = { sat := (calibrate channels c.config code).sat,
                                          compLost := (calibrate channels c.config code).compLost } := by
  simp only [cycleResult, h]

/-- Settles O30: calibration by the three cases of R17, then the turn's frame. -/
theorem calibrationFormed : Obligations.CalibrationFormed := by
  unfold Obligations.CalibrationFormed
  constructor
  case left =>
    intro channels cfg code e usable hterm hnone
    have husable : ∀ p, channels[p.source].usable .temperature = true ↔ usable p := fun p =>
      Channel.usable_iff _ _
    cases hcomp : cfg.compensation with
    | none =>
      have he : e = 0 := hnone fun p hp => by simp [hcomp] at hp
      subst he
      dsimp only
      rw [calibrate_of_none code hcomp]
      exact ⟨by simp [ChannelKind.calibrated], ChannelKind.calibrated_spec _ _ _⟩
    | some p =>
      have honly : ∀ r, cfg.compensation = some r → r = p := fun r hr =>
        Option.some.inj (hr.symm.trans hcomp)
      by_cases hp : channels[p.source].usable .temperature = true
      · have he := hterm p hcomp ((husable p).1 hp)
        subst he
        dsimp only
        rw [calibrate_of_usable code hcomp hp]
        refine ⟨⟨nofun, fun ⟨r, hr, hnot⟩ => ?_⟩, ChannelKind.calibrated_spec _ _ _⟩
        cases hr
        exact absurd ((husable p).1 hp) hnot
      · have hnot : ¬ usable p := fun h => hp ((husable p).2 h)
        have he : e = 0 := hnone fun r hr => honly r hr ▸ hnot
        subst he
        dsimp only
        rw [calibrate_of_unusable code hcomp hp]
        exact ⟨⟨fun _ => ⟨p, rfl, hnot⟩, fun _ => rfl⟩, ChannelKind.calibrated_spec _ _ _⟩
  case right =>
    intro channels i c code hgood
    dsimp only
    refine ⟨?_, ?_, (congrArg Channel.quality (c.turn_frame channels i code)).trans
      (cycleResult_quality_of_good hgood)⟩
    · rw [Channel.turn_of_good i hgood, (Channel.reclassified_smoothing _).1]
      exact Channel.addDose_smoothing _
    · rw [Channel.turn_of_good i hgood, (Channel.reclassified_smoothing _).2]
      exact Channel.addDose_published _

/-! ### Dose and TWA (R25 to R27) -/

theorem Channel.addDose_of_inactive {c : Channel} (h : c.config.dose = false) : c.addDose = c := by
  simp [Channel.addDose, h]

theorem Channel.addDose_of_open {c : Channel} (h : c.config.dose = true)
    (hopen : c.openCount + 1 ≠ 2 ^ c.config.m) :
    c.addDose = { c with openSum := c.openSum + c.published.toNat, openCount := c.openCount + 1 } := by
  simp [Channel.addDose, h, hopen]

theorem Channel.addDose_of_full {c : Channel} (h : c.config.dose = true)
    (hfull : c.openCount + 1 = 2 ^ c.config.m) :
    c.addDose =
      let slots := closeSlot c.closedSlots (c.openSum + c.published.toNat)
      { c with openSum := 0, openCount := 0, closedSlots := slots,
               twa := if slots.length = 16 then some (twaOf c.config.m slots) else c.twa } := by
  simp [Channel.addDose, h, hfull]

/-- The sixteen newest sums are kept (R26). -/
theorem closeSlot_eq_drop {slots : List Nat} (sum : Nat) (h : slots.length ≤ 16) :
    closeSlot slots sum = (slots ++ [sum]).drop (slots.length + 1 - 16) := by
  unfold closeSlot
  split
  next hroom => rw [show slots.length + 1 - 16 = 0 by omega, List.drop_zero]
  next hfull =>
    have hlength : slots.length = 16 := by omega
    rw [hlength]
    cases slots with
    | nil => simp at hlength
    | cons x xs => rfl

theorem closeSlot_length {slots : List Nat} (sum : Nat) (h : slots.length ≤ 16) :
    (closeSlot slots sum).length ≤ 16 := by
  rw [closeSlot_eq_drop sum h, List.length_drop, List.length_append, List.length_singleton]
  omega

theorem mem_of_mem_closeSlot {slots : List Nat} {sum x : Nat} (h : x ∈ closeSlot slots sum) :
    x ∈ slots ∨ x = sum := by
  unfold closeSlot at h
  split at h
  · simpa using h
  · obtain h | h := List.mem_append.1 h
    · exact .inl (List.mem_of_mem_tail h)
    · exact .inr (List.mem_singleton.1 h)

/-- The TWA is the mean of 16 slots of 2^m samples, rounded to the nearest count, a half upward (R27). -/
theorem twaOf_spec (m : Nat) (slots : List Nat) :
    2 ^ (4 + m) * twaOf m slots ≤ slots.sum + 2 ^ (3 + m) ∧
      slots.sum + 2 ^ (3 + m) < 2 ^ (4 + m) * (twaOf m slots + 1) :=
  ⟨Nat.mul_div_le _ _, Nat.lt_mul_div_succ _ (by positivity)⟩

theorem twaOf_le {m : Nat} {slots : List Nat} (hlength : slots.length = 16)
    (h : ∀ x ∈ slots, x ≤ 2 ^ m * 32767) : twaOf m slots ≤ 32767 := by
  have hsum : slots.sum ≤ 16 * (2 ^ m * 32767) := by
    have := List.sum_le_card_nsmul slots _ h
    rwa [hlength, smul_eq_mul] at this
  have hpositive : 0 < 2 ^ m := by positivity
  have hlow : 2 ^ (3 + m) = 8 * 2 ^ m := by rw [pow_add]; norm_num
  have hhigh : 2 ^ (4 + m) = 16 * 2 ^ m := by rw [pow_add]; norm_num
  unfold twaOf
  rw [hlow, hhigh, ← Nat.lt_add_one_iff, Nat.div_lt_iff_lt_mul (by omega)]
  omega

/-- Settles O31, by what the sample does to the open slot. -/
theorem doseAccumulated : Obligations.DoseAccumulated := by
  unfold Obligations.DoseAccumulated
  intro c hlow hhigh hcount hsum hslots hbound htwa
  have hsample : c.openSum + c.published.toNat ≤ (c.openCount + 1) * 32767 := by
    rw [Nat.add_mul]
    omega
  by_cases hdose : c.config.dose = true
  · by_cases hfull : c.openCount + 1 = 2 ^ c.config.m
    · have hmember : ∀ x ∈ closeSlot c.closedSlots (c.openSum + c.published.toNat),
          x ≤ 2 ^ c.config.m * 32767 := fun x hx => by
        obtain hx | rfl := mem_of_mem_closeSlot hx
        · exact hbound x hx
        · rwa [hfull] at hsample
      dsimp only
      rw [Channel.addDose_of_full hdose hfull]
      refine ⟨fun h => by simp [h] at hdose, fun _ h => absurd hfull h.ne,
        fun _ _ => ⟨rfl, closeSlot_eq_drop _ hslots, fun hfew => if_neg hfew.ne,
          fun hall => ⟨_, if_pos hall, twaOf_spec _ _⟩⟩,
        (by positivity : 0 < 2 ^ c.config.m), Nat.zero_le _, closeSlot_length _ hslots, hmember, fun t ht => ?_⟩
      dsimp only at ht
      split at ht
      next hall =>
        cases ht
        exact twaOf_le hall hmember
      next => exact htwa t ht
    · dsimp only
      rw [Channel.addDose_of_open hdose hfull]
      exact ⟨fun h => by simp [h] at hdose, fun _ _ => rfl, fun _ h => absurd h hfull,
        by dsimp only; omega, hsample, hslots, hbound, htwa⟩
  · have hinactive := Channel.addDose_of_inactive (Bool.eq_false_iff.2 hdose)
    dsimp only
    rw [hinactive]
    exact ⟨fun _ => rfl, fun h => absurd h hdose, fun h => absurd h hdose, hcount, hsum, hslots, hbound,
      htwa⟩

/-! ### Classification (R30) -/

/-- The candidate is the highest level whose threshold is reached. -/
theorem ChannelConfig.candidate_spec {cfg : ChannelConfig} (x : Int)
    (horder : cfg.t1 ≤ cfg.t2 ∧ cfg.t2 ≤ cfg.t3) :
    (cfg.candidate x ≠ .normal → (cfg.threshold (cfg.candidate x) : Int) ≤ x) ∧
      ∀ k, levelCode (cfg.candidate x) < levelCode k → x < cfg.threshold k := by
  obtain ⟨h12, h23⟩ := horder
  unfold ChannelConfig.candidate
  split_ifs with h3 h2 h1
  · refine ⟨fun _ => h3, fun k hk => ?_⟩
    cases k <;> simp [levelCode] at hk
  · refine ⟨fun _ => h2, fun k hk => ?_⟩
    cases k <;> simp [levelCode, ChannelConfig.threshold] at hk ⊢
    omega
  · refine ⟨fun _ => h1, fun k hk => ?_⟩
    cases k <;> simp [levelCode, ChannelConfig.threshold] at hk ⊢ <;> omega
  · refine ⟨fun h => absurd rfl h, fun k hk => ?_⟩
    cases k <;> simp [levelCode, ChannelConfig.threshold] at hk ⊢ <;> omega

/-- The level fallen to is the highest lower one whose threshold less the hysteresis is reached. -/
theorem ChannelConfig.fallTo_spec {cfg : ChannelConfig} {l : Level} (x : Int) (hl : l ≠ .normal) :
    levelCode (cfg.fallTo l x) < levelCode l ∧
      (cfg.fallTo l x ≠ .normal → (cfg.threshold (cfg.fallTo l x) : Int) - cfg.hysteresis ≤ x) ∧
      ∀ k, levelCode (cfg.fallTo l x) < levelCode k → levelCode k < levelCode l →
        x < (cfg.threshold k : Int) - cfg.hysteresis := by
  cases l with
  | normal => exact absurd rfl hl
  | raised =>
    refine ⟨Nat.zero_lt_one, fun h => absurd rfl h, fun k hk hk' => ?_⟩
    cases k <;> simp [levelCode, ChannelConfig.fallTo] at hk hk'
  | high =>
    unfold ChannelConfig.fallTo
    dsimp only
    split_ifs with h1
    · refine ⟨by decide, fun _ => h1, fun k hk hk' => ?_⟩
      cases k <;> simp [levelCode] at hk hk'
    · refine ⟨by decide, fun h => absurd rfl h, fun k hk hk' => ?_⟩
      cases k <;> simp [levelCode, ChannelConfig.threshold] at hk hk' ⊢
      omega
  | critical =>
    unfold ChannelConfig.fallTo
    dsimp only
    split_ifs with h2 h1
    · refine ⟨by decide, fun _ => h2, fun k hk hk' => ?_⟩
      cases k <;> simp [levelCode] at hk hk'
    · refine ⟨by decide, fun _ => h1, fun k hk hk' => ?_⟩
      cases k <;> simp [levelCode, ChannelConfig.threshold] at hk hk' ⊢
      omega
    · refine ⟨by decide, fun h => absurd rfl h, fun k hk hk' => ?_⟩
      cases k <;> simp [levelCode, ChannelConfig.threshold] at hk hk' ⊢ <;> omega

/-- Settles O32: the rise by the candidate, the fall by the levels below, then the turn. -/
theorem levelClassified : Obligations.LevelClassified := by
  unfold Obligations.LevelClassified
  constructor
  case left =>
    intro cfg l x h12 h23 hh thr h r
    obtain ⟨hreached, habove⟩ := ChannelConfig.candidate_spec x ⟨h12, h23⟩
    refine ⟨fun ⟨k, hlk, hk⟩ => ?rise, fun hnone => ?stay⟩
    case rise =>
      have hrising : levelCode l < levelCode (cfg.candidate x) := by
        by_contra hnot
        exact absurd (habove k (by omega)) (not_lt.2 hk)
      have hr : r = cfg.candidate x := if_pos hrising
      have hpositive : cfg.candidate x ≠ .normal := fun e => by
        rw [e] at hrising
        exact absurd hrising (Nat.not_lt_zero _)
      rw [hr]
      exact ⟨hrising, hreached hpositive, habove⟩
    case stay =>
      have hrising : ¬ levelCode l < levelCode (cfg.candidate x) := fun hlt => by
        have hpositive : cfg.candidate x ≠ .normal := fun e => by
          rw [e] at hlt
          exact absurd hlt (Nat.not_lt_zero _)
        exact absurd (hreached hpositive) (not_le.2 (hnone _ hlt))
      have hr : r = if l ≠ .normal ∧ x < thr l - h then cfg.fallTo l x else l := if_neg hrising
      refine ⟨fun hl hx => ?_, fun hstay => ?_⟩
      · rw [hr, if_pos ⟨hl, hx⟩]
        exact ChannelConfig.fallTo_spec x hl
      · rw [hr, if_neg]
        rintro ⟨hl, hx⟩
        exact hstay.elim hl fun hle => absurd hx (not_lt.2 hle)
  case right =>
    intro channels i c code hgood
    dsimp only
    rw [Channel.turn_of_good i hgood]
    let input := ChainInput.fresh (!c.hasValue) (calibrate channels c.config code)
    have hframe := (c.supervised channels code).chain_frame input
    obtain ⟨hlevel, hmark⟩ := Channel.reclassified_level ((c.supervised channels code).chain input)
    have hconfig : ((c.supervised channels code).chain input).config = c.config :=
      (congrArg Channel.config hframe :)
    have hold : ((c.supervised channels code).chain input).level = c.level := Channel.chain_level _ _
    have holdMark : ((c.supervised channels code).chain input).levelChanged = c.levelChanged :=
      Channel.addDose_levelChanged _
    rw [hconfig, hold] at hlevel
    rw [hold, holdMark] at hmark
    exact ⟨hlevel, hmark⟩

/-! ### Smoothing (R4, R22 to R24) -/

/-- A move of a part of the way from `s` to `v` ends between them. -/
theorem smoothed_between {s v lo hi : Int} {k : Nat} (hk : 0 < k) (hs : lo ≤ s) (hs' : s ≤ hi) (hv : lo ≤ v)
    (hv' : v ≤ hi) : lo ≤ s + (v - s) / k ∧ s + (v - s) / k ≤ hi := by
  have hpositive : (0 : Int) < k := by exact_mod_cast hk
  obtain hup | hdown := le_total s v
  · have h0 : 0 ≤ (v - s) / k := Int.ediv_nonneg (by omega) hpositive.le
    have h1 : (v - s) / k ≤ v - s := Int.ediv_le_self _ (by omega)
    omega
  · have h0 : (v - s) / k ≤ 0 := Int.ediv_nonpos_of_nonpos_of_neg (by omega) hpositive
    have h1 : v - s ≤ (v - s) / k := by
      rw [Int.le_ediv_iff_mul_le hpositive]
      nlinarith
    omega

/-- Settles O35. -/
theorem smoothingKeepsRange : Obligations.SmoothingKeepsRange := by
  unfold Obligations.SmoothingKeepsRange
  intro c init v hlow hhigh hv hv'
  have hstate : c.config.kind.bottom * 256 ≤ (c.smooth init v).smoothing ∧
      (c.smooth init v).smoothing ≤ 32767 * 256 := by
    cases init with
    | true =>
      rw [Channel.smooth_init_smoothing]
      omega
    | false => exact smoothed_between (by positivity) hlow hhigh (by omega) (by omega)
  have hrounded : (c.smooth init v).published = ((c.smooth init v).smoothing + 128) / 256 := rfl
  dsimp only
  rw [hrounded]
  omega

end Sys2Proof.Machine
end

section
/-!
Settles O23, the acquisition cycle: one turn as an equation on channels and table, the turns of a list of
channels in ascending order, the end-of-cycle work stage by stage, and the statement.
-/

namespace Sys2Proof.Machine

/-! ### One channel's turn on the channels and on the table (R3, R9, R67, R69) -/

/-- Channel `i` as its turn leaves it, reading the channels `C`. -/
def turned (currents : Vector Nat 8) (C : Vector Channel 8) (i : Fin 8) : Channel :=
  (C[i].turn C i (converterCode currents[i])).1

/-- A table entry after the LOCAL reading of channel `i` that its turn left as `c`. -/
def Entry.localTaken (i : Fin 8) (c : Channel) (e : Entry) : Entry :=
  if c.quality.fault = false ∧ e.source = .here ∧ e.channel = i.val then e.take c.level c.published else e

theorem Node.localReading_eq (i : Fin 8) (n : Node) :
    n.localReading i = { n with contribution := { n.contribution with
      entries := n.contribution.entries.map (Entry.localTaken i (n.channel i)) } } := by
  unfold Node.localReading
  dsimp only
  split
  next hfault =>
    have hkept : n.contribution.entries.map (Entry.localTaken i (n.channel i)) = n.contribution.entries := by
      ext k hk : 1
      simp [Entry.localTaken, hfault]
    rw [hkept]
  next hclear =>
    have htaken : ∀ e : Entry, Entry.localTaken i (n.channel i) e =
        if e.source = .here ∧ e.channel = i.val then e.take (n.channel i).level (n.channel i).published
        else e := fun e => by
      simp [Entry.localTaken, hclear]
    rw [funext htaken]
    rfl

theorem Node.channelTurn_of_off {currents : Vector Nat 8} {n : Node} {i : Fin 8}
    (h : n.sensors.channels[i].state = .off) : n.channelTurn currents i = n := if_pos h

theorem Node.channelTurn_of_on {currents : Vector Nat 8} {n : Node} {i : Fin 8}
    (h : n.sensors.channels[i].state ≠ .off) :
    ∃ F p, n.channelTurn currents i = { n with
      sensors := { n.sensors with
        channels := n.sensors.channels.set i (turned currents n.sensors.channels i) }
      contribution := { n.contribution with
        entries := n.contribution.entries.map (Entry.localTaken i (turned currents n.sensors.channels i)) }
      fans := F, reports := p } := by
  let set : Node := { n with sensors := { n.sensors with
    channels := n.sensors.channels.set i (turned currents n.sensors.channels i) } }
  let reports := (n.sensors.channels[i].turn n.sensors.channels i (converterCode currents[i])).2
  have hturn : n.channelTurn currents i =
      ((set.raiseAll reports).localReading i).withFans fun env r => r.recheckAll env i := if_neg h
  obtain ⟨p, hraised⟩ := Node.raiseAll_eq reports set
  have hread : (set.raiseAll reports).localReading i = { set with
      contribution := { n.contribution with
        entries := n.contribution.entries.map (Entry.localTaken i (turned currents n.sensors.channels i)) }
      reports := p } := by
    rw [hraised, Node.localReading_eq]
    have hchannel : ({ set with reports := p } : Node).channel i = turned currents n.sensors.channels i :=
      Vector.getElem_set_self _
    rw [hchannel]
  rw [hturn, hread]
  exact ⟨_, Node.withFans_eq _ _⟩

/-! ### The turns in ascending order -/

/-- What the turns of the channels in `l` have made of `n`. -/
structure Turned (currents : Vector Nat 8) (l : List (Fin 8)) (n m : Node) : Prop where
  frame : ∃ C E F p, m = { n with
    sensors := { n.sensors with channels := C }
    contribution := { n.contribution with entries := E }
    fans := F, reports := p }
  waiting : ∀ i, i ∉ l → m.sensors.channels[i] = n.sensors.channels[i]
  off : ∀ i : Fin 8, n.sensors.channels[i].state = .off → m.sensors.channels[i] = n.sensors.channels[i]
  on : ∀ i ∈ l, n.sensors.channels[i].state ≠ .off → ∃ seen : Vector Channel 8,
    (∀ j : Fin 8, j < i → m.sensors.channels[j] = seen[j]) ∧
      (∀ j : Fin 8, i ≤ j → seen[j] = n.sensors.channels[j]) ∧
      m.sensors.channels[i] = turned currents seen i
  read : ∀ (k : Fin 16), ∀ i ∈ l, n.contribution.entries[k].source = .here →
    n.contribution.entries[k].channel = i.val → n.sensors.channels[i].state ≠ .off →
    m.sensors.channels[i].quality.fault = false →
    m.contribution.entries[k] =
      n.contribution.entries[k].take m.sensors.channels[i].level m.sensors.channels[i].published
  unread : ∀ k : Fin 16,
    (n.contribution.entries[k].source ≠ .here ∨ ∀ i ∈ l, n.contribution.entries[k].channel = i.val →
      n.sensors.channels[i].state = .off ∨ m.sensors.channels[i].quality.fault = true) →
    m.contribution.entries[k] = n.contribution.entries[k]

theorem Turned.nil (currents : Vector Nat 8) (n : Node) : Turned currents [] n n where
  frame := ⟨_, _, _, _, rfl⟩
  waiting _ _ := rfl
  off _ _ := rfl
  on _ h := absurd h List.not_mem_nil
  read _ _ h := absurd h List.not_mem_nil
  unread _ _ := rfl

theorem Entry.localTaken_of_not {i : Fin 8} {c : Channel} {e : Entry}
    (h : e.source ≠ .here ∨ e.channel ≠ i.val ∨ c.quality.fault = true) : e.localTaken i c = e := by
  unfold Entry.localTaken
  rw [if_neg]
  rintro ⟨hclear, hsource, hchannel⟩
  simp_all

/-- The turn of a channel above those that have had theirs. -/
theorem Turned.snoc {currents : Vector Nat 8} {l : List (Fin 8)} {n m : Node} (h : Turned currents l n m)
    {i : Fin 8} (hi : ∀ j ∈ l, j < i) : Turned currents (l ++ [i]) n (m.channelTurn currents i) := by
  have hnew : i ∉ l := fun hmem => lt_irrefl i (hi i hmem)
  have hcurrent : m.sensors.channels[i] = n.sensors.channels[i] := h.waiting i hnew
  by_cases hoff : n.sensors.channels[i].state = .off
  case pos =>
    rw [Node.channelTurn_of_off (hcurrent ▸ hoff)]
    refine ⟨h.frame, fun j hj => h.waiting j fun hmem => hj (List.mem_append_left _ hmem), h.off,
      fun j hj hon => ?_, fun k j hj hsource hchannel hon => ?_, fun k hk => ?_⟩
    · obtain hj | hj := List.mem_append.1 hj
      · exact h.on j hj hon
      · exact absurd (List.mem_singleton.1 hj ▸ hoff) hon
    · obtain hj | hj := List.mem_append.1 hj
      · exact h.read k j hj hsource hchannel hon
      · exact absurd (List.mem_singleton.1 hj ▸ hoff) hon
    · exact h.unread k (hk.imp_right fun hall j hj => hall j (List.mem_append_left _ hj))
  case neg =>
    obtain ⟨F, p, hturn⟩ := Node.channelTurn_of_on (currents := currents) (n := m) (i := i)
      (by rw [hcurrent]; exact hoff)
    have hself : (m.channelTurn currents i).sensors.channels[i] = turned currents m.sensors.channels i := by
      rw [hturn]
      exact Vector.getElem_set_self _
    have hothers : ∀ j : Fin 8, j ≠ i →
        (m.channelTurn currents i).sensors.channels[j] = m.sensors.channels[j] := fun j hj => by
      rw [hturn]
      exact Vector.getElem_set_ne i.isLt j.isLt fun e => hj (Fin.ext e.symm)
    have hentry : ∀ k : Fin 16, (m.channelTurn currents i).contribution.entries[k] =
        m.contribution.entries[k].localTaken i (turned currents m.sensors.channels i) := fun k => by
      rw [hturn]
      exact Vector.getElem_map _ _
    have hkept : ∀ j ∈ l, (m.channelTurn currents i).sensors.channels[j] = m.sensors.channels[j] :=
      fun j hj => hothers j (hi j hj).ne
    refine ⟨?_, fun j hj => ?_, fun j hj => ?_, fun j hj hon => ?_, fun k j hj hsource hchannel hon hclear => ?_,
      fun k hk => ?_⟩
    · obtain ⟨C, E, F', p', hm⟩ := h.frame
      rw [hturn, hm]
      exact ⟨_, _, _, _, rfl⟩
    · rw [hothers j fun e => hj (by simp [e])]
      exact h.waiting j fun hmem => hj (List.mem_append_left _ hmem)
    · rw [hothers j fun e => hoff (e ▸ hj)]
      exact h.off j hj
    · obtain hmem | hmem := List.mem_append.1 hj
      · obtain ⟨seen, hbefore, hafter, hresult⟩ := h.on j hmem hon
        refine ⟨seen, fun y hy => ?_, hafter, (hkept j hmem).trans hresult⟩
        rw [hothers y (hy.trans (hi j hmem)).ne]
        exact hbefore y hy
      · obtain rfl := List.mem_singleton.1 hmem
        exact ⟨m.sensors.channels, fun y hy => hothers y hy.ne,
          fun y hy => h.waiting y fun hy' => absurd (hi y hy') (not_lt.2 hy), hself⟩
    · rw [hentry]
      obtain hmem | hmem := List.mem_append.1 hj
      · rw [hkept j hmem] at hclear ⊢
        rw [h.read k j hmem hsource hchannel hon hclear]
        refine Entry.localTaken_of_not (.inr (.inl ?_))
        rw [show (Entry.take _ _ _).channel = j.val from hchannel]
        exact fun e => (hi j hmem).ne (Fin.ext e)
      · obtain rfl := List.mem_singleton.1 hmem
        rw [hself] at hclear ⊢
        rw [h.unread k (.inr fun y hy e => absurd (hi y hy) (by
          rw [show y = j from Fin.ext (e.symm.trans hchannel)]; exact lt_irrefl j))]
        exact if_pos ⟨hclear, hsource, hchannel⟩
    · rw [hentry]
      have hbefore : m.contribution.entries[k] = n.contribution.entries[k] :=
        h.unread k (hk.imp_right fun hall j hj hchannel => by
          rw [← hkept j hj]
          exact hall j (List.mem_append_left _ hj) hchannel)
      rw [hbefore]
      refine Entry.localTaken_of_not (hk.imp_right fun hall => ?_)
      by_cases hchannel : n.contribution.entries[k].channel = i.val
      · have hfault := (hall i (by simp) hchannel).resolve_left hoff
        rw [hself] at hfault
        exact .inr hfault
      · exact .inl hchannel

theorem Turned.of_sorted (currents : Vector Nat 8) (n : Node) {l : List (Fin 8)} (hl : l.Pairwise (· < ·)) :
    Turned currents l n (l.foldl (fun n i => n.channelTurn currents i) n) := by
  induction l using List.reverseRecOn with
  | nil => exact .nil currents n
  | append_singleton l i ih =>
    obtain ⟨hsorted, -, hbelow⟩ := List.pairwise_append.1 hl
    rw [List.foldl_append]
    exact (ih hsorted).snoc fun j hj => hbelow j hj i (List.mem_singleton.2 rfl)

theorem channelIndices_sorted : channelIndices.Pairwise (· < ·) := by decide

theorem mem_channelIndices : ∀ i : Fin 8, i ∈ channelIndices := by decide

/-! ### The mark of a changed level (R32) -/

theorem Channel.chain_levelChanged (c : Channel) (input : ChainInput) :
    (c.chain input).levelChanged = c.levelChanged := by
  cases input with
  | none => rfl
  | held v => exact Channel.addDose_levelChanged _
  | fresh init v => exact Channel.addDose_levelChanged _

/-- A turn marks the level it changes and takes no mark away. -/
theorem Channel.turn_levelChanged (channels : Vector Channel 8) (i : Fin 8) (c : Channel) (code : Nat) :
    (c.turn channels i code).1.levelChanged = true ↔
      c.levelChanged = true ∨ (c.turn channels i code).1.level ≠ c.level := by
  rw [Channel.turn_eq]
  dsimp only
  unfold Channel.measured
  split_ifs
  · simp [Channel.supervised]
  · rw [(Channel.reclassified_level _).2, Channel.chain_levelChanged, Channel.chain_level]
    simp [Channel.supervised]

/-! ### The end of the cycle, stage by stage (R33, R35 to R40, R72, R75) -/

theorem Channel.isHigh_iff (c : Channel) : c.isHigh = true ↔ c.level = .high ∨ c.level = .critical := by
  simp [Channel.isHigh]

theorem Sensors.any_iff (s : Sensors) (P : Channel → Bool) :
    s.channels.any P = true ↔ ∃ i : Fin 8, P s.channels[i] = true := by
  rw [Vector.any_eq_true]
  exact ⟨fun ⟨i, hi, h⟩ => ⟨⟨i, hi⟩, h⟩, fun ⟨i, h⟩ => ⟨i, i.isLt, h⟩⟩

theorem Sensors.heatAndSmoke_iff (s : Sensors) :
    s.heatAndSmoke = true ↔
      (∃ i : Fin 8, s.channels[i].config.kind = .temperature ∧ s.channels[i].isHigh = true) ∧
        ∃ j : Fin 8, s.channels[j].config.kind = .opacity ∧ s.channels[j].isHigh = true := by
  simp only [Sensors.heatAndSmoke, Bool.and_eq_true, Sensors.any_iff, beq_iff_eq]

theorem Sensors.criticalHeat_iff (s : Sensors) :
    s.criticalHeat = true ↔
      ∃ i : Fin 8, s.channels[i].config.kind = .temperature ∧ s.channels[i].level = .critical := by
  simp only [Sensors.criticalHeat, Bool.and_eq_true, Sensors.any_iff, beq_iff_eq]

/-- The two conditions of R33 as one about a hot channel. -/
theorem Sensors.fire_iff (s : Sensors) :
    (s.heatAndSmoke || s.criticalHeat) = true ↔
      ∃ i : Fin 8, s.channels[i].config.kind = .temperature ∧
        (s.channels[i].level = .critical ∨ (s.channels[i].level = .high ∧
          ∃ j : Fin 8, s.channels[j].config.kind = .opacity ∧
            (s.channels[j].level = .high ∨ s.channels[j].level = .critical))) := by
  rw [Bool.or_eq_true, s.heatAndSmoke_iff, s.criticalHeat_iff]
  simp only [Channel.isHigh_iff]
  constructor
  · rintro (⟨⟨i, hkind, hhigh | hcritical⟩, hsmoke⟩ | ⟨i, hkind, hcritical⟩)
    · exact ⟨i, hkind, .inr ⟨hhigh, hsmoke⟩⟩
    · exact ⟨i, hkind, .inl hcritical⟩
    · exact ⟨i, hkind, .inl hcritical⟩
  · rintro ⟨i, hkind, hcritical | ⟨hhigh, hsmoke⟩⟩
    · exact .inr ⟨i, hkind, hcritical⟩
    · exact .inl ⟨⟨i, hkind, .inl hhigh⟩, hsmoke⟩

theorem Node.checkFire_eq (n : Node) :
    ∃ D F p, n.checkFire = { n with
      sensors := { n.sensors with fireSuspect :=
        n.sensors.fireSuspect || (n.sensors.heatAndSmoke || n.sensors.criticalHeat) }
      doors := D, fans := F, reports := p } := by
  unfold Node.checkFire
  dsimp only
  split
  next hfire =>
    rw [Bool.and_eq_true] at hfire
    rw [hfire.1, Bool.or_true]
    obtain ⟨p, hraised⟩ := n.raise_eq
      { kind := .fireSuspect, object := n.sensors.hotChannel, severity := .alarm,
        detail := flag n.sensors.heatAndSmoke + 2 * flag n.sensors.criticalHeat }
    rw [hraised]
    obtain ⟨D, F, p', hrefreshed⟩ := Node.refreshDoors_eq
      { n with sensors := { n.sensors with fireSuspect := true }, reports := p }
    exact ⟨D, F, p', hrefreshed⟩
  next hquiet =>
    have hkept : (n.sensors.fireSuspect || (n.sensors.heatAndSmoke || n.sensors.criticalHeat)) =
        n.sensors.fireSuspect := by
      revert hquiet
      cases n.sensors.fireSuspect <;> simp
    rw [hkept]
    exact ⟨_, _, _, rfl⟩

/-- Whether the SAMPLE that is due is also sent (R37, R40). -/
def Node.canPublish (n : Node) : Prop :=
  n.runState ≠ .unconfigured ∧ n.validId = true ∧ ∃ i : Fin 8, n.sensors.channels[i].included = true

theorem Node.publish_of_not {n : Node} (h : ¬ n.canPublish) : n.publish = n := by
  unfold Node.publish
  refine if_neg fun hsent => h ?_
  simp only [Bool.and_eq_true, Sensors.any_included_iff, Node.held, Bool.not_eq_true', beq_eq_false_iff_ne]
    at hsent
  exact ⟨hsent.1.1, hsent.1.2, hsent.2⟩

theorem Node.publish_of_can {n : Node} (h : n.canPublish) :
    n.publish.sensors.sampleSequence = n.sensors.sampleSequence + 1 ∧
      ∀ s, n.publish.side s = (n.side s).offered ⟨sampleTelegram n, .here⟩ := by
  obtain ⟨hrun, hid, hany⟩ := h
  obtain ⟨hsensors, hsides⟩ := (Node.publish_spec (beq_eq_false_iff_ne.2 hrun) hid).1 hany
  exact ⟨congrArg Sensors.sampleSequence hsensors, hsides⟩

/-- A SAMPLE is due at the publish interval, and when a level has changed (R35, R36). -/
def Node.sampleDue (n : Node) : Prop :=
  n.params.publishInterval ≤ n.sensors.publicationCounter + 1 ∨
    ∃ i : Fin 8, n.sensors.channels[i].levelChanged = true

/-- The publication step counts, and offers the SAMPLE that is due and can be sent to both sides. -/
theorem Node.publicationStep_spec (n : Node) :
    ∃ sequence l p, n.publicationStep = { n with
        sensors := { n.sensors with
          publicationCounter := if n.params.publishInterval ≤ n.sensors.publicationCounter + 1 then 0
            else n.sensors.publicationCounter + 1
          sampleSequence := sequence }
        line := l, reports := p } ∧
      (¬ (n.sampleDue ∧ n.canPublish) → l = n.line ∧ sequence = n.sensors.sampleSequence) ∧
      (n.sampleDue ∧ n.canPublish → sequence = n.sensors.sampleSequence + 1 ∧
        ∀ s, ({ n with line := l } : Node).side s = (n.side s).offered ⟨sampleTelegram n, .here⟩) := by
  let counted : Node := { n with sensors := { n.sensors with
    publicationCounter := if n.params.publishInterval ≤ n.sensors.publicationCounter + 1 then 0
      else n.sensors.publicationCounter + 1 } }
  have hdue : (decide (n.params.publishInterval ≤ n.sensors.publicationCounter + 1) ||
      n.sensors.channels.any (·.levelChanged)) = true ↔ n.sampleDue := by
    rw [Bool.or_eq_true, decide_eq_true_iff, Sensors.any_iff]
    rfl
  have hstep : n.publicationStep = if decide (n.params.publishInterval ≤ n.sensors.publicationCounter + 1) ||
      n.sensors.channels.any (·.levelChanged) then counted.publish else counted := by
    unfold Node.publicationStep
    simp only
    rfl
  by_cases hsent : n.sampleDue ∧ n.canPublish
  · obtain ⟨hsequence, hsides⟩ := Node.publish_of_can (n := counted) hsent.2
    obtain ⟨sequence, l, p, hpublish⟩ := counted.publish_eq
    rw [hstep, if_pos (hdue.2 hsent.1)]
    rw [hpublish] at hsequence hsides ⊢
    exact ⟨sequence, l, p, rfl, fun hnot => absurd hsent hnot, fun _ => ⟨hsequence, hsides⟩⟩
  · refine ⟨n.sensors.sampleSequence, n.line, n.reports, ?_, fun _ => ⟨rfl, rfl⟩, fun h => absurd h hsent⟩
    rw [hstep]
    split
    next hdue' => exact Node.publish_of_not (n := counted) fun hcan => hsent ⟨hdue.1 hdue', hcan⟩
    next => rfl

theorem Node.computeDemand_eq (n : Node) :
    ∃ F p, n.computeDemand = { n with
      contribution := { n.contribution with demand := demandOf n.contribution.entries }
      setups := n.setups.map fun (s : GroupSetup) =>
        { s with demandStage := s.config.nextStage s.demandStage (demandOf n.contribution.entries) }
      fans := F, reports := p } :=
  Node.presentGroups_eq _

/-- The end-of-cycle work as one equation on the node that the turns leave (R72). -/
theorem Node.endOfCycle_spec (n : Node) :
    ∃ sequence l D F p, n.endOfCycle = { n with
        sensors := {
          channels := n.sensors.channels.map fun (c : Channel) => { c with levelChanged := false }
          fireSuspect := n.sensors.fireSuspect || (n.sensors.heatAndSmoke || n.sensors.criticalHeat)
          publicationCounter := if n.params.publishInterval ≤ n.sensors.publicationCounter + 1 then 0
            else n.sensors.publicationCounter + 1
          sampleSequence := sequence }
        contribution := { n.contribution with demand := demandOf n.contribution.entries }
        setups := n.setups.map fun (s : GroupSetup) =>
          { s with demandStage := s.config.nextStage s.demandStage (demandOf n.contribution.entries) }
        line := l, doors := D, fans := F, reports := p } ∧
      (¬ (n.sampleDue ∧ n.canPublish) → l = n.line ∧ sequence = n.sensors.sampleSequence) ∧
      (n.sampleDue ∧ n.canPublish → sequence = n.sensors.sampleSequence + 1 ∧
        ∀ s, ({ n with line := l } : Node).side s = (n.side s).offered ⟨sampleTelegram n, .here⟩) := by
  obtain ⟨D, F, p, hfire⟩ := n.checkFire_eq
  obtain ⟨sequence, l, p', hpublished, hquiet, hsent⟩ := n.checkFire.publicationStep_spec
  obtain ⟨F', p'', hdemand⟩ := n.checkFire.publicationStep.computeDemand_eq
  rw [hfire] at hquiet hsent
  refine ⟨sequence, l, D, F', p'', ?_, hquiet, hsent⟩
  unfold Node.endOfCycle
  rw [hdemand, hpublished, hfire]
  rfl

/-! ### The statement -/

/-- The body of a SAMPLE record by record (R38). -/
theorem Sensors.sampleBody_eq (s : Sensors) :
    s.sampleBody = (List.finRange 8).flatMap fun i =>
      if s.channels[i].state = .off ∨ s.channels[i].state = .acquiring then []
      else s.channels[i].sampleRecord i := by
  have hincluded : ∀ i : Fin 8, s.channels[i].included = true ↔
      ¬ (s.channels[i].state = .off ∨ s.channels[i].state = .acquiring) := fun i => by
    simp [Channel.included]
  unfold Sensors.sampleBody
  simp only [hincluded, ite_not]
  rfl

/-- The quality bits of a record stand beside its level (section 3.8). -/
theorem Quality.add_bits (k : Nat) (q : Quality) (twa : Bool) :
    k + 16 * flag twa + 8 * flag q.fault + 4 * flag q.held + 2 * flag q.compLost + flag q.sat =
      k + q.bits twa := by
  simp only [Quality.bits, add_assoc]

/-- A turn reads of its own channel what the cycle found. -/
theorem Turned.on_eq {currents : Vector Nat 8} {l : List (Fin 8)} {n m : Node} (h : Turned currents l n m)
    {i : Fin 8} (hi : i ∈ l) (hon : n.sensors.channels[i].state ≠ .off) :
    ∃ seen : Vector Channel 8, (∀ j : Fin 8, j < i → m.sensors.channels[j] = seen[j]) ∧
      (∀ j : Fin 8, i ≤ j → seen[j] = n.sensors.channels[j]) ∧
      m.sensors.channels[i] = (n.sensors.channels[i].turn seen i (converterCode currents[i])).1 := by
  obtain ⟨seen, hbefore, hafter, hresult⟩ := h.on i hi hon
  refine ⟨seen, hbefore, hafter, ?_⟩
  rw [hresult, turned, hafter i le_rfl]

/-- After the turns a channel is marked where it was before, or where its level has changed (R32). -/
theorem Turned.levelChanged_iff {currents : Vector Nat 8} {l : List (Fin 8)} {n m : Node}
    (h : Turned currents l n m) (i : Fin 8) :
    m.sensors.channels[i].levelChanged = true ↔ n.sensors.channels[i].levelChanged = true ∨
      m.sensors.channels[i].level ≠ n.sensors.channels[i].level := by
  by_cases hturn : i ∈ l ∧ n.sensors.channels[i].state ≠ .off
  · obtain ⟨seen, -, -, hresult⟩ := h.on_eq hturn.1 hturn.2
    rw [hresult]
    exact Channel.turn_levelChanged _ _ _ _
  · have hkept : m.sensors.channels[i] = n.sensors.channels[i] := by
      by_cases hmem : i ∈ l
      · exact h.off i (not_not.1 fun hon => hturn ⟨hmem, hon⟩)
      · exact h.waiting i hmem
    rw [hkept]
    simp

/-- Settles O23: the turns, then the end of the cycle on what they leave. -/
theorem acquisitionRuns : Obligations.AcquisitionRuns := by
  unfold Obligations.AcquisitionRuns
  intro n q currents
  let started : Node := { n with time := { n.time with samplePeriod := 10 * n.params.samplePeriod } }
  obtain ⟨t, hfold⟩ : ∃ t, channelIndices.foldl (fun n i => n.channelTurn currents i) started = t := ⟨_, rfl⟩
  have hturned : Turned currents channelIndices started t :=
    hfold ▸ .of_sorted currents started channelIndices_sorted
  obtain ⟨sequence, l, D, F, p, hend, hquiet, hsent⟩ := t.endOfCycle_spec
  have hrun : n.acquire currents = _ := (congrArg Node.endOfCycle hfold).trans hend
  obtain ⟨C, E, F', p', ht⟩ := hturned.frame
  have hparams : t.params = n.params := (congrArg Node.params ht :)
  have hcounter : t.sensors.publicationCounter = n.sensors.publicationCounter :=
    (congrArg (fun m : Node => m.sensors.publicationCounter) ht :)
  have hsequence : t.sensors.sampleSequence = n.sensors.sampleSequence :=
    (congrArg (fun m : Node => m.sensors.sampleSequence) ht :)
  have hsuspect : t.sensors.fireSuspect = n.sensors.fireSuspect :=
    (congrArg (fun m : Node => m.sensors.fireSuspect) ht :)
  have hline : t.line = n.line := (congrArg Node.line ht :)
  have hsetups : t.setups = n.setups := (congrArg Node.setups ht :)
  have hside : ∀ s, t.side s = n.side s := fun s => by
    cases s
    · exact congrArg Line.west hline
    · exact congrArg Line.east hline
  have hcleared : ∀ i : Fin 8, (t.sensors.channels.map fun (c : Channel) => { c with levelChanged := false })[i] =
      { t.sensors.channels[i] with levelChanged := false } := fun i => Vector.getElem_map _ _
  have hcan : t.canPublish ↔ n.runState ≠ .unconfigured ∧ n.validId = true ∧
      ∃ i : Fin 8, t.sensors.channels[i].included = true := by
    unfold Node.canPublish Node.validId
    rw [show t.runState = n.runState from (congrArg Node.runState ht :),
      show t.strap = n.strap from (congrArg Node.strap ht :)]
  have hdue : t.sampleDue ↔ n.params.publishInterval ≤ n.sensors.publicationCounter + 1 ∨
      ∃ i : Fin 8, n.sensors.channels[i].levelChanged = true ∨
        t.sensors.channels[i].level ≠ n.sensors.channels[i].level := by
    unfold Node.sampleDue
    rw [hparams, hcounter]
    exact or_congr_right (exists_congr hturned.levelChanged_iff)
  rw [hcan, hdue, hsequence] at hquiet hsent
  rw [hline] at hquiet
  rw [hparams, hcounter, hsuspect, hsetups] at hrun
  refine ⟨_, next_congr q hrun, (congrArg Node.time ht :), fun i hoff => ?off, fun i hon => ?on, rfl, ?fire,
    fun k i hsource hchannel hon hclear => ?read, fun k hk => ?unread, ⟨?quiet, ?sent⟩, rfl, fun g => ?stage,
    ?frame⟩
  case off => rw [hcleared, hturned.off i hoff]
  case on =>
    obtain ⟨seen, hbefore, hafter, hresult⟩ := hturned.on_eq (mem_channelIndices i) hon
    refine ⟨seen, fun j hj => ?_, hafter, ?_⟩
    · rw [hcleared, hbefore j hj]
    · rw [hcleared, hresult]
      rfl
  case fire =>
    rw [Bool.or_eq_true, Sensors.fire_iff]
    simp only [hcleared]
  case read =>
    simp only [hcleared] at hclear ⊢
    exact hturned.read k i (mem_channelIndices i) hsource hchannel hon hclear
  case unread =>
    simp only [hcleared] at hk
    exact hturned.unread k (hk.imp_right fun hall i _ => hall i)
  case quiet =>
    simp only [hcleared]
    exact hquiet
  case sent =>
    simp only [hcleared]
    intro hdue'
    obtain ⟨hraised, hsides⟩ := hsent hdue'
    refine ⟨hraised, fun s => ⟨fun hdown => ?_, fun hup hroom => ?_⟩⟩
    · have hstate : (n.side s).state ≠ .up := by simpa [Node.isUp] using hdown
      exact (hsides s).trans ((congrArg (SideUnit.offered · _) (hside s)).trans
        (SideUnit.offered_of_down hstate))
    · have hstate : (n.side s).state = .up := (n.isUp_iff s).1 hup
      have htelegram : sampleTelegram t =
          { kind := .sample, cls := .sample, route := .bothEnds, hop := 0, target := 0, origin := n.idByte,
            tag := n.sensors.sampleSequence
            body := (List.finRange 8).flatMap fun i =>
              if t.sensors.channels[i].state = .off ∨ t.sensors.channels[i].state = .acquiring then []
              else t.sensors.channels[i].sampleRecord i } := by
        unfold sampleTelegram
        rw [hsequence, Sensors.sampleBody_eq, Node.idByte, show t.strap = n.strap from (congrArg Node.strap ht :)]
        rfl
      have hjoined := hsides s
      rw [htelegram, hside] at hjoined
      simp only [Quality.add_bits]
      exact hjoined.trans (SideUnit.offered_of_hasRoom hstate hroom)
  case stage => exact Vector.getElem_map _ _
  case frame => rw [ht]

end Sys2Proof.Machine
end

section
/-!
Settles O44 to O46: a refused zone order, a zone reply from beyond, and the outcome of a final reply. First
the reception of ZONE telegrams and what the zone unit's telegrams make of the two sides, which O43 uses too.
-/

namespace Sys2Proof.Machine

/-! ### Reception, and telegrams that owe no notice (R50 to R54, R58) -/

/-- A ZONE telegram that a side hears reaches the switch's ZONE handling. -/
theorem Node.receive_zone {n : Node} {s : Side} {k : Kind} {header : Header} {body : List Byte}
    (hears : n.Hears s (header.telegram k .zone body)) (hk : k ≠ .idle) :
    n.receive s (header.telegram k .zone body) =
      (n.loadSilence s).switchZone s (hopped (header.telegram k .zone body)) := by
  rw [Node.receive_switch hears hk]
  rfl

theorem Node.offer_of_no_notice {n : Node} {s : Side} {e : Queued} (h : e.noticeSide = none) :
    n.offer s e = n.offerPlain s e := by
  unfold Node.offer Node.offerPlain
  rw [h]
  cases e.telegram.cls <;> rfl

/-- A telegram that owes no notice changes the side it is forwarded to and no other. -/
theorem Node.forward_side {n : Node} {s : Side} {t : Telegram} (hroute : t.route ≠ .path) :
    (n.forward s t).side s = n.side s ∧
      (n.forward s t).side s.other = (n.side s.other).offered ⟨t, .forwarded s⟩ := by
  have hnotice : (⟨t, .forwarded s⟩ : Queued).noticeSide = none := by simp [Queued.noticeSide, hroute]
  rw [Node.forward, Node.offer_of_no_notice hnotice]
  have hother := (n.offerPlain_side s.other ⟨t, .forwarded s⟩).1
  rw [Side.other_other] at hother
  exact ⟨hother, n.offerPlain_own s.other _⟩

/-- A reply of the zone unit is offered to its side and no other, at a node with a valid strap value. -/
theorem Node.sendZoneReply_side (n : Node) (s : Side) (tag : Byte) (body : List Byte) :
    (n.sendZoneReply s tag body).side s.other = n.side s.other ∧
      (n.validId = true → (n.sendZoneReply s tag body).side s =
        (n.side s).offered ⟨zoneReplyTelegram n tag body, .here⟩) := by
  unfold Node.sendZoneReply
  split
  · obtain ⟨hown, hother⟩ := n.sendTo_side s (zoneReplyTelegram n tag body)
    exact ⟨hother, fun _ => hown⟩
  next hid => exact ⟨rfl, fun h => absurd h hid⟩

theorem Node.sendZoneReply_of_valid {n : Node} (h : n.validId = true) (s : Side) (tag : Byte)
    (body : List Byte) : n.sendZoneReply s tag body = n.sendTo s (zoneReplyTelegram n tag body) := if_pos h

/-! ### Refusals (R139) -/

theorem Node.zoneOrder_of_body {n : Node} {s : Side} {t : Telegram} (h : orderBody t.body = none) :
    n.zoneOrder s t = n := by
  simp [Node.zoneOrder, h]

/-- An order that its entry does not take, by the entry's state and then its side. -/
theorem Node.zoneOrder_of_misfit {n : Node} {s : Side} {t : Telegram} {o : OrderBody} {z : Fin 32}
    (hbody : orderBody t.body = some o) (hzone : t.target.toNat = z.val)
    (hmisfit : n.zones[z].state ≠ .bound ∨ n.zones[z].inputSide ≠ s) :
    ∃ x, b8 (outcomeCode x) = (if n.zones[z].state ≠ .bound then 4 else 5) ∧
      n.zoneOrder s t = if o.reply then n.refuseOrder s z t.tag x else n := by
  unfold Node.zoneOrder
  rw [hbody, index_of_eq_val hzone]
  dsimp only
  by_cases hstate : n.zones[z].state = .bound
  · have hside : n.zones[z].inputSide ≠ s := hmisfit.resolve_left (not_not.2 hstate)
    rw [if_neg (not_not.2 hstate), if_neg (not_not.2 hstate), if_pos hside]
    exact ⟨.wrongSide, rfl, rfl⟩
  · rw [if_pos hstate, if_pos hstate]
    exact ⟨.zoneUnbound, rfl, rfl⟩

/-- Settles O44. -/
theorem zoneOrderRefused : Obligations.ZoneOrderRefused := by
  unfold Obligations.ZoneOrderRefused
  intro n q side header body z hears hzone
  have hreceive : n.receive side (header.telegram .zoneOrder .zone body) =
      (n.loadSilence side).zoneOrder side (hopped (header.telegram .zoneOrder .zone body)) :=
    Node.receive_zone hears nofun
  refine ⟨fun hbody => next_congr q (hreceive.trans (Node.zoneOrder_of_body hbody)),
    fun o hbody hmisfit => ?_⟩
  obtain ⟨x, hcode, hrefused⟩ := Node.zoneOrder_of_misfit (n := n.loadSilence side)
    (t := hopped (header.telegram .zoneOrder .zone body)) hbody hzone hmisfit
  refine ⟨fun hreply => next_congr q (hreceive.trans (hrefused.trans ?_)),
    fun hreply hid => next_congr q (hreceive.trans (hrefused.trans ?_))⟩
  · rw [hreply]
    rfl
  · rw [if_pos hreply, Node.refuseOrder, Node.sendZoneReply_of_valid (n := n.loadSilence side) hid]
    have hbytes : zoneReplyBody (n.loadSilence side) z true false x 0 0 =
        [b8 z.val, 1, if n.zones[z].state ≠ .bound then 4 else 5, n.idByte, 0, 0] :=
      congrArg (fun c : Byte => [b8 z.val, 1, c, n.idByte, 0, 0]) hcode
    rw [hbytes]
    rfl

/-! ### The worst outcome (R150) -/

theorem ZoneOutcome.worse_spec (a b : ZoneOutcome) :
    (a.worse b = a ∨ a.worse b = b) ∧ a.badness ≤ (a.worse b).badness ∧ b.badness ≤ (a.worse b).badness := by
  unfold ZoneOutcome.worse
  split
  next h => exact ⟨.inr rfl, h.le, le_rfl⟩
  next h => exact ⟨.inl rfl, le_rfl, not_lt.1 h⟩

/-- A local nack is the local outcome where it is not OK (R141). -/
theorem Record.nack_spec (r : Record) :
    (r.nack.getD .ok = .ok ∨ r.localOutcome = some (r.nack.getD .ok)) ∧
      ∀ x ∈ r.localOutcome, x.badness ≤ (r.nack.getD .ok).badness := by
  unfold Record.nack
  cases hlocal : r.localOutcome with
  | none => simp
  | some x => by_cases hx : x = .ok <;> simp [Option.filter, hx]

/-- Settles O46, through the four outcomes that the worst is taken of. -/
theorem finalOutcomeWorst : Obligations.FinalOutcomeWorst := by
  unfold Obligations.FinalOutcomeWorst
  intro r cause
  obtain ⟨hnack, hlocal⟩ := r.nack_spec
  let budget : ZoneOutcome := if r.untracked then .budgetShort else .ok
  have hfinal : r.finalOutcome cause =
      (((r.nack.getD .ok).worse r.forwardOutcome).worse budget).worse (cause.getD .ok) := rfl
  obtain ⟨h1, h1l, h1r⟩ := ZoneOutcome.worse_spec (r.nack.getD .ok) r.forwardOutcome
  obtain ⟨h2, h2l, h2r⟩ := ZoneOutcome.worse_spec ((r.nack.getD .ok).worse r.forwardOutcome) budget
  obtain ⟨h3, h3l, h3r⟩ := ZoneOutcome.worse_spec
    (((r.nack.getD .ok).worse r.forwardOutcome).worse budget) (cause.getD .ok)
  rw [← hfinal] at h3 h3l h3r
  refine ⟨?_, fun x hx => ?_⟩
  · have hcases : r.finalOutcome cause = r.nack.getD .ok ∨ r.finalOutcome cause = r.forwardOutcome ∨
        r.finalOutcome cause = budget ∨ r.finalOutcome cause = cause.getD .ok := by
      rw [← or_assoc, ← or_assoc]
      refine h3.imp_left fun h3 => ?_
      rw [h3]
      refine h2.imp_left fun h2 => ?_
      rw [h2]
      exact h1
    obtain h | h | h | h := hcases
    · obtain hok | hlocal := hnack
      · simp [h, hok]
      · simp [h, hlocal]
    · simp [h]
    · rw [h]
      by_cases hu : r.untracked = true <;> simp [budget, hu]
    · rw [h]
      cases cause <;> simp
  · simp only [List.mem_append, Option.mem_toList, List.mem_singleton] at hx
    obtain ((hx | hx) | hx) | hx := hx
    · exact (hlocal x hx).trans (h1l.trans (h2l.trans h3l))
    · exact hx ▸ h1r.trans (h2l.trans h3l)
    · have hbudget : x.badness ≤ budget.badness := by
        by_cases hu : r.untracked = true <;> simp_all [budget]
      exact hbudget.trans (h2r.trans h3l)
    · have hcause : cause.getD .ok = x := by
        rw [hx]
        rfl
      exact hcause ▸ h3r

/-! ### Replies from beyond (R145 to R148) -/

/-- A reply that reaches a record from beyond is taken by it (R145). -/
theorem Node.zoneReply_of_record {n : Node} {t : Telegram} {b : ReplyBody} {z : Fin 32} {r : Record}
    (hbody : replyBody t.body = some b) (hzone : b.zone = z.val) (hrecord : n.zones[z].record = some r) :
    n.zoneReply r.side.other t = n.takeReply r.side.other z t b r := by
  unfold Node.zoneReply
  simp only [hbody, index_of_eq_val hzone, hrecord]
  rw [if_true]

theorem Record.take_of_nonfinal {r : Record} {b : ReplyBody} (h : b.final = false) :
    r.take b = { r with forwardOutcome := r.forwardOutcome.worse b.outcome } := by
  simp [Record.take, h]

theorem Record.take_of_final {r : Record} {b : ReplyBody} (h : b.final = true) :
    r.take b = { r with
      forwardOutcome := r.forwardOutcome.worse b.outcome
      applied := min 126 (r.applied + b.applied), failed := min 126 (r.failed + b.failed)
      untracked := r.untracked || b.untracked, ackWait := none } := by
  simp [Record.take, h]

/-- A matching reply that is not final is relayed (R147). -/
theorem Node.takeReply_of_nonfinal {n : Node} {s : Side} {z : Fin 32} {t : Telegram} {b : ReplyBody}
    {r : Record} (htag : t.tag = r.tag) (hfinal : b.final = false) :
    n.takeReply s z t b r = (n.withRecord z (some (r.take b))).forward s t := by
  unfold Node.takeReply
  rw [if_neg (not_not.2 htag), if_neg (by simp [hfinal])]
  rfl

/-- A matching final reply ends the record with the node's own final reply (R148, R150). -/
theorem Node.takeReply_of_final {n : Node} {s : Side} {z : Fin 32} {t : Telegram} {b : ReplyBody}
    {r : Record} (htag : t.tag = r.tag) (hfinal : b.final = true) :
    n.takeReply s z t b r = (n.withRecord z none).sendZoneReply (r.take b).side (r.take b).tag
      (zoneReplyBody n z true (r.take b).untracked ((r.take b).finalOutcome none) (r.take b).applied
        (r.take b).failed) := by
  unfold Node.takeReply
  rw [if_neg (not_not.2 htag), if_pos hfinal]
  exact Node.closeRecord_withRecord _ _ _ _

theorem Node.takeReply_eq (n : Node) (s : Side) (z : Fin 32) (t : Telegram) (b : ReplyBody) (r : Record) :
    ∃ Z l p, n.takeReply s z t b r = { n with zones := Z, line := l, reports := p } := by
  by_cases htag : t.tag = r.tag
  · cases hfinal : b.final with
    | false =>
      obtain ⟨l, p, h⟩ := (n.withRecord z (some (r.take b))).forward_eq s t
      rw [Node.takeReply_of_nonfinal htag hfinal, h]
      exact ⟨_, l, p, rfl⟩
    | true =>
      obtain ⟨l, p, h⟩ := (n.withRecord z none).sendZoneReply_eq (r.take b).side (r.take b).tag
        (zoneReplyBody n z true (r.take b).untracked ((r.take b).finalOutcome none) (r.take b).applied
          (r.take b).failed)
      rw [Node.takeReply_of_final htag hfinal, h]
      exact ⟨_, l, p, rfl⟩
  · have htaken : n.takeReply s z t b r = n.dropReply z t b := if_pos htag
    rw [htaken, Node.dropReply]
    split
    · obtain ⟨p, h⟩ := n.raise_eq _
      exact ⟨n.zones, n.line, p, h⟩
    · exact ⟨n.zones, n.line, n.reports, rfl⟩

theorem Node.raise_loadSilence (n : Node) (s : Side) (r : Report) :
    (n.loadSilence s).raise r = { n.raise r with line := (n.loadSilence s).line } := by
  unfold Node.raise
  by_cases h : (validStrap n.strap || r.kind == .idInvalid) = true
  · rw [Node.loadSilence_strap, if_pos h, if_pos h]
    rfl
  · rw [Node.loadSilence_strap, if_neg h, if_neg h]
    rfl

/-- Settles O45, by the tag and the final flag. -/
theorem zoneReplyTaken : Obligations.ZoneReplyTaken := by
  unfold Obligations.ZoneReplyTaken
  intro n q side both header body b z r hears hbody hzone hrecord hside worse last
  subst hside
  let heard := n.loadSilence r.side.other
  let t := hopped (header.telegram .zoneReply (endRoute both) body)
  have hroute : t.route ≠ .path := by
    cases both <;> exact nofun
  have hreceive : n.receive r.side.other (header.telegram .zoneReply (endRoute both) body) =
      heard.takeReply r.side.other z t b r :=
    (Node.receive_end hears nofun).trans (Node.zoneReply_of_record (n := heard) hbody hzone hrecord)
  have hfar : heard.side r.side = n.side r.side := by
    have h := n.loadSilence_side_other r.side.other
    rwa [Side.other_other] at h
  refine ⟨_, next_congr q hreceive, fun htag => ?strange, fun htag hfinal => ?relayed,
    fun htag hfinal => ?ended, ?frame⟩
  case strange =>
    have htaken : heard.takeReply r.side.other z t b r = heard.dropReply z t b := if_pos htag
    rw [htaken, Node.dropReply]
    cases hfinal : b.final with
    | false => exact ⟨rfl, rfl, rfl⟩
    | true =>
      rw [if_pos rfl, if_pos rfl, Node.raise_loadSilence]
      exact ⟨Node.raise_zones _ _, rfl, rfl⟩
  case relayed =>
    rw [Node.takeReply_of_nonfinal (t := t) htag hfinal, Record.take_of_nonfinal hfinal]
    obtain ⟨l, p, hforward⟩ := (heard.withRecord z (some worse)).forward_eq r.side.other t
    refine ⟨(congrArg Node.zones hforward :), fun hup hroom => ?_⟩
    obtain ⟨-, hjoined⟩ := Node.forward_side (n := heard.withRecord z (some worse)) (s := r.side.other) hroute
    rw [Side.other_other, show (heard.withRecord z (some worse)).side r.side = n.side r.side from hfar,
      SideUnit.offered_of_hasRoom ((n.isUp_iff _).1 hup) hroom] at hjoined
    exact hjoined
  case ended =>
    rw [Node.takeReply_of_final (t := t) htag hfinal, Record.take_of_final hfinal]
    obtain ⟨hother, hown⟩ := (heard.withRecord z none).sendZoneReply_side r.side r.tag
      (zoneReplyBody heard z true last.untracked (last.finalOutcome none)
        (min 126 (r.applied + b.applied)) (min 126 (r.failed + b.failed)))
    obtain ⟨l, p, hsent⟩ := (heard.withRecord z none).sendZoneReply_eq r.side r.tag
      (zoneReplyBody heard z true last.untracked (last.finalOutcome none)
        (min 126 (r.applied + b.applied)) (min 126 (r.failed + b.failed)))
    refine ⟨(congrArg Node.zones hsent :), hother, fun hid hup hroom => (hown hid).trans ?_⟩
    rw [show (heard.withRecord z none).side r.side = n.side r.side from hfar,
      SideUnit.offered_of_hasRoom ((n.isUp_iff _).1 hup) hroom]
    rfl
  case frame =>
    obtain ⟨Z, l, p, htaken⟩ := heard.takeReply_eq r.side.other z t b r
    rw [htaken]
    rfl

end Sys2Proof.Machine
end

section
/-!
Settles O43, an accepted zone order: what its replies and its copy make of the two sides, the answer as one
equation, the local outcome, and the statement.
-/

namespace Sys2Proof.Machine

/-! ### Replies one after another out of one side (R50, R51) -/

/-- An UP side whose ALARM queue has room for `k` telegrams. -/
def SideUnit.AlarmRoom (u : SideUnit) (k : Nat) : Prop :=
  u.state = .up ∧ u.alarm.length + k ≤ Config.alarmCapacity

theorem SideUnit.AlarmRoom.offered {u : SideUnit} {e : Queued} {k : Nat} (h : u.AlarmRoom (k + 1))
    (hcls : e.telegram.cls = .alarm) : u.offered e = u.join e ∧ (u.join e).AlarmRoom k := by
  obtain ⟨hup, hroom⟩ := h
  have hjoined : ((u.join e).queue .alarm).length ≤ u.alarm.length + 1 := by
    have hserved := (u.setQueue e.telegram.cls (u.queue e.telegram.cls ++ [e])).serve_queue .alarm
    rw [hcls] at hserved
    rw [SideUnit.join, hcls]
    refine hserved.trans ?_
    simp [SideUnit.setQueue, SideUnit.queue]
  refine ⟨SideUnit.offered_of_hasRoom hup ?_, (u.join_state e).trans hup, ?_⟩
  · rw [hcls]
    exact decide_eq_true (show u.alarm.length < Config.alarmCapacity by omega)
  · have halarm : (u.join e).alarm.length ≤ u.alarm.length + 1 := hjoined
    omega

theorem SideUnit.AlarmRoom.mono {u : SideUnit} {j k : Nat} (h : u.AlarmRoom k) (hle : j ≤ k) :
    u.AlarmRoom j := ⟨h.1, by have := h.2; omega⟩

/-- Alarm telegrams join one after another while there is room. -/
def SideUnit.joinAll (u : SideUnit) (es : List Queued) : SideUnit := es.foldl SideUnit.join u

@[simp] theorem SideUnit.joinAll_nil (u : SideUnit) : u.joinAll [] = u := rfl

@[simp] theorem SideUnit.joinAll_singleton (u : SideUnit) (e : Queued) : u.joinAll [e] = u.join e := rfl

theorem SideUnit.joinAll_append (u : SideUnit) (es fs : List Queued) :
    u.joinAll (es ++ fs) = (u.joinAll es).joinAll fs := List.foldl_append ..

/-- What a list of replies of the zone unit, offered to side `s` in order, makes of the two sides. -/
structure Node.Replied (n m : Node) (s : Side) (es : List Queued) : Prop where
  far : m.side s.other = n.side s.other
  near : ∀ k, n.validId = true → (n.side s).AlarmRoom (k + es.length) →
    m.side s = (n.side s).joinAll es ∧ (m.side s).AlarmRoom k
  id : m.validId = n.validId

theorem Node.Replied.of_side {n m : Node} {s : Side} (hline : m.line = n.line) (hstrap : m.strap = n.strap) :
    n.Replied m s [] where
  far := by rw [Node.side, hline, Node.side]
  near k _ hroom := by
    have hside : m.side s = n.side s := by rw [Node.side, hline, Node.side]
    rw [hside]
    exact ⟨rfl, hroom⟩
  id := by rw [Node.validId, hstrap, Node.validId]

theorem Node.Replied.trans {n m p : Node} {s : Side} {es fs : List Queued} (h : n.Replied m s es)
    (h' : m.Replied p s fs) : n.Replied p s (es ++ fs) where
  far := h'.far.trans h.far
  near k hid hroom := by
    rw [List.length_append, Nat.add_comm es.length, ← Nat.add_assoc] at hroom
    obtain ⟨hside, hleft⟩ := h.near _ hid hroom
    obtain ⟨hside', hleft'⟩ := h'.near k (h.id.trans hid) hleft
    refine ⟨?_, hleft'⟩
    rw [hside', hside]
    exact (SideUnit.joinAll_append ..).symm
  id := h'.id.trans h.id

/-- One reply of the zone unit (R143, R150). -/
def Node.zoneReplyQueued (n : Node) (tag : Byte) (body : List Byte) : Queued :=
  ⟨zoneReplyTelegram n tag body, .here⟩

theorem Node.replied_sendZoneReply (n : Node) (s : Side) (tag : Byte) (body : List Byte) :
    n.Replied (n.sendZoneReply s tag body) s [n.zoneReplyQueued tag body] where
  far := (n.sendZoneReply_side s tag body).1
  near k hid hroom := by
    obtain ⟨hjoin, hleft⟩ := hroom.offered (e := n.zoneReplyQueued tag body) rfl
    have hown := ((n.sendZoneReply_side s tag body).2 hid).trans hjoin
    rw [hown]
    exact ⟨rfl, hleft⟩
  id := by
    obtain ⟨l, p, h⟩ := n.sendZoneReply_eq s tag body
    rw [h]
    rfl

/-- A reply shows of the node its ID alone. -/
theorem Node.zoneReplyQueued_congr {n m : Node} (h : m.strap = n.strap) (tag : Byte) (z : Nat)
    (final untracked : Bool) (o : ZoneOutcome) (applied failed : Nat) :
    m.zoneReplyQueued tag (zoneReplyBody m z final untracked o applied failed) =
      n.zoneReplyQueued tag (zoneReplyBody n z final untracked o applied failed) := by
  simp only [Node.zoneReplyQueued, zoneReplyTelegram, zoneReplyBody, Node.idByte, h]

/-- The final reply of the record that an entry holds, if it holds one (R150). -/
def Node.recordFinals (n : Node) (z : Fin 32) (cause : Option ZoneOutcome) : List Queued :=
  n.zones[z].record.toList.map fun r => n.zoneReplyQueued r.tag
    (zoneReplyBody n z true r.untracked (r.finalOutcome cause) r.applied r.failed)

theorem Node.recordFinals_length (n : Node) (z : Fin 32) (cause : Option ZoneOutcome) :
    (n.recordFinals z cause).length ≤ 1 := by
  unfold Node.recordFinals
  cases n.zones[z].record <;> simp

theorem Node.replied_closeRecord (n : Node) (s : Side) (z : Fin 32) (cause : Option ZoneOutcome)
    (hside : ∀ old ∈ n.zones[z].record, old.side = s) :
    n.Replied (n.closeRecord z cause) s (n.recordFinals z cause) := by
  unfold Node.closeRecord Node.recordFinals
  cases hrecord : n.zones[z].record with
  | none => exact .of_side rfl rfl
  | some r =>
    have hs : r.side = s := hside r hrecord
    subst hs
    exact (Node.Replied.of_side (n := n) (m := n.withRecord z none) rfl rfl).trans
      (Node.replied_sendZoneReply (n.withRecord z none) r.side r.tag _)

/-- The non-final reply of a record with a local nack (R143). -/
def Node.nacks (n : Node) (z : Fin 32) (r : Record) : List Queued :=
  r.nack.toList.map fun x => n.zoneReplyQueued r.tag (zoneReplyBody n z false false x 0 1)

theorem Node.nacks_length (n : Node) (z : Fin 32) (r : Record) : (n.nacks z r).length ≤ 1 := by
  unfold Node.nacks
  cases r.nack <;> simp

theorem Node.replied_sendNack (n : Node) (s : Side) (z : Fin 32) (r : Record) :
    n.Replied (n.sendNack s z r) s (n.nacks z r) := by
  unfold Node.sendNack Node.nacks
  cases r.nack with
  | none => exact .of_side rfl rfl
  | some x => exact n.replied_sendZoneReply s r.tag _

/-! ### The answer to an accepted order (R142 to R144) -/

theorem Node.sendNack_eq (n : Node) (s : Side) (z : Fin 32) (r : Record) :
    ∃ l p, n.sendNack s z r = { n with line := l, reports := p } := by
  unfold Node.sendNack
  split
  · exact ⟨_, _, rfl⟩
  · exact n.sendZoneReply_eq _ _ _

theorem Node.passOrder_eq (n : Node) (s : Side) (z : Fin 32) (t : Telegram) (body : List Byte) :
    ∃ l p, n.passOrder s z t body = { n with line := l, reports := p } := by
  unfold Node.passOrder
  split
  · exact n.forward_eq _ _
  · exact ⟨_, _, rfl⟩

/-- Passing an order on leaves the order side alone (R142, R144). -/
theorem Node.passOrder_side {n : Node} {s : Side} {z : Fin 32} {t : Telegram} {body : List Byte}
    (hroute : t.route ≠ .path) :
    (n.passOrder s z t body).side s = n.side s ∧
      (n.passOrder s z t body).side s.other = if n.zones[z].forward then
        (n.side s.other).offered ⟨{ t with body := body }, .forwarded s⟩ else n.side s.other := by
  unfold Node.passOrder
  split
  · exact Node.forward_side hroute
  · exact ⟨rfl, rfl⟩

/-- Whether the order leaves a record that waits for a reply from beyond (R143, R144). -/
def OrderBody.awaits (o : OrderBody) (forward : Bool) : Bool := o.reply && (forward && decide (4 ≤ o.budget))

/-- The copy of an order that is passed on. -/
def OrderBody.copy (o : OrderBody) (forward : Bool) : List Byte :=
  if o.awaits forward then o.forwarded true (o.budget - 2) else o.forwarded false 0

/-- The answer to an accepted order: the nack, the copy, the record and the final reply sent at once. -/
def Node.answered (n : Node) (s : Side) (z : Fin 32) (t : Telegram) (o : OrderBody) (r : Record) : Node :=
  let m := if o.reply then n.sendNack s z r else n
  let m := m.passOrder s z t (o.copy n.zones[z].forward)
  let m := m.withRecord z (if o.awaits n.zones[z].forward then some r else none)
  if o.reply && !o.awaits n.zones[z].forward then
    m.sendZoneReply s r.tag (zoneReplyBody m z true r.untracked (r.finalOutcome none) r.applied r.failed)
  else m

theorem newRecord_awaits {o : OrderBody} (hreply : o.reply = true) (s : Side) (tag : Byte) (forward : Bool)
    (outcome : Option ZoneOutcome) :
    (newRecord s tag o forward outcome).ackWait.isSome = o.awaits forward := by
  by_cases h : forward = true ∧ 4 ≤ o.budget
  · obtain ⟨hforward, hbudget⟩ := h
    simp [newRecord, OrderBody.awaits, hreply, hforward, hbudget]
  · have hawaits : o.awaits forward = false := by simpa [OrderBody.awaits, hreply] using h
    rw [hawaits]
    unfold newRecord
    rw [if_neg h]
    rfl

theorem Node.withRecord_self {n : Node} {z : Fin 32} {x : Option Record} (h : n.zones[z].record = x) :
    n.withRecord z x = n := by
  have hzones : upd n.zones z (fun e => { e with record := x }) = n.zones := by
    ext i hi : 1
    by_cases hz : z.val = i
    · subst hz
      subst h
      exact upd_self _ _ _
    · exact upd_ne n.zones z ⟨i, hi⟩ _ fun e => hz (congrArg Fin.val e)
  rw [Node.withRecord, Node.modZone, hzones]

/-- The answer of the zone unit to an order at an entry without a record. -/
theorem Node.answered_eq {n : Node} {s : Side} {z : Fin 32} {t : Telegram} {o : OrderBody}
    {outcome : Option ZoneOutcome} (hnone : n.zones[z].record = none) :
    (if o.reply then n.answeredOrder s z t o outcome else n.unansweredOrder s z t o) =
      n.answered s z t o (newRecord s t.tag o n.zones[z].forward outcome) := by
  let r := newRecord s t.tag o n.zones[z].forward outcome
  cases hreply : o.reply with
  | false =>
    have hawaits : o.awaits n.zones[z].forward = false := by simp [OrderBody.awaits, hreply]
    simp only [Node.answered, Node.unansweredOrder, OrderBody.copy, hawaits, hreply, Bool.false_eq_true,
      if_false, Bool.false_and]
    obtain ⟨l, p, h⟩ := n.passOrder_eq s z t (o.forwarded false 0)
    exact (Node.withRecord_self (by rw [h]; exact hnone)).symm
  | true =>
    have hwaits : r.ackWait.isSome = o.awaits n.zones[z].forward := newRecord_awaits hreply _ _ _ _
    have hnack : (n.withRecord z (some r)).sendNack s z r = (n.sendNack s z r).withRecord z (some r) :=
      Node.sendNack_modZone _ _ _ _ _ _
    have hanswered : n.answeredOrder s z t o outcome =
        if o.awaits n.zones[z].forward then
          ((n.sendNack s z r).passOrder s z t (o.forwarded true (o.budget - 2))).withRecord z (some r)
        else (((n.sendNack s z r).passOrder s z t (o.forwarded false 0)).withRecord z (some r)).closeRecord z
          none := by
      rw [← hwaits, ← Node.passOrder_withRecord, ← Node.passOrder_withRecord, ← hnack]
      rfl
    rw [if_pos rfl, hanswered]
    cases hawaits : o.awaits n.zones[z].forward with
    | true =>
      simp only [Node.answered, OrderBody.copy, hawaits, hreply]
      rfl
    | false =>
      simp only [Node.answered, OrderBody.copy, hawaits, hreply, Bool.false_eq_true, if_false,
        Node.closeRecord_withRecord]
      rfl

/-- The nack of an order that asks for a reply. -/
def Node.nackIf (n : Node) (s : Side) (z : Fin 32) (o : OrderBody) (r : Record) : Node :=
  if o.reply then n.sendNack s z r else n

theorem Node.nackIf_eq (n : Node) (s : Side) (z : Fin 32) (o : OrderBody) (r : Record) :
    ∃ l p, n.nackIf s z o r = { n with line := l, reports := p } := by
  unfold Node.nackIf
  split
  · exact n.sendNack_eq s z r
  · exact ⟨_, _, rfl⟩

theorem Node.replied_nackIf (n : Node) (s : Side) (z : Fin 32) (o : OrderBody) (r : Record) :
    n.Replied (n.nackIf s z o r) s (if o.reply then n.nacks z r else []) := by
  unfold Node.nackIf
  split
  · exact n.replied_sendNack s z r
  · exact .of_side rfl rfl

theorem Node.answered_frame (n : Node) (s : Side) (z : Fin 32) (t : Telegram) (o : OrderBody) (r : Record) :
    ∃ l p, n.answered s z t o r = { n with
      zones := upd n.zones z fun e => { e with
        record := if o.awaits n.zones[z].forward then some r else none }
      line := l, reports := p } := by
  obtain ⟨l, p, hnack⟩ := n.nackIf_eq s z o r
  obtain ⟨l', p', hpass⟩ := (n.nackIf s z o r).passOrder_eq s z t (o.copy n.zones[z].forward)
  have hstood : ((n.nackIf s z o r).passOrder s z t (o.copy n.zones[z].forward)).withRecord z
      (if o.awaits n.zones[z].forward then some r else none) = { n with
        zones := upd n.zones z fun e => { e with
          record := if o.awaits n.zones[z].forward then some r else none }
        line := l', reports := p' } := by
    rw [hpass, hnack]
    rfl
  have hanswered : n.answered s z t o r =
      let m := ((n.nackIf s z o r).passOrder s z t (o.copy n.zones[z].forward)).withRecord z
        (if o.awaits n.zones[z].forward then some r else none)
      if o.reply && !o.awaits n.zones[z].forward then
        m.sendZoneReply s r.tag (zoneReplyBody m z true r.untracked (r.finalOutcome none) r.applied r.failed)
      else m := rfl
  rw [hanswered]
  dsimp only
  rw [hstood]
  split
  · obtain ⟨l'', p'', hsent⟩ := Node.sendZoneReply_eq _ _ _ _
    exact ⟨l'', p'', hsent⟩
  · exact ⟨l', p', rfl⟩

/-- What the answer makes of the two sides: the replies in their order, and the copy (R142 to R144). -/
theorem Node.answered_sides {n : Node} {s : Side} {z : Fin 32} {t : Telegram} {o : OrderBody} {r : Record}
    (hroute : t.route ≠ .path) :
    (n.answered s z t o r).side s.other = (if n.zones[z].forward then
        (n.side s.other).offered ⟨{ t with body := o.copy n.zones[z].forward }, .forwarded s⟩
      else n.side s.other) ∧
    (∀ k, n.validId = true → (n.side s).AlarmRoom (k + 2) →
      (n.answered s z t o r).side s = (n.side s).joinAll
        ((if o.reply then n.nacks z r else []) ++
          if o.reply && !o.awaits n.zones[z].forward then
            [n.zoneReplyQueued r.tag
              (zoneReplyBody n z true r.untracked (r.finalOutcome none) r.applied r.failed)]
          else [])) := by
  let nacked := n.nackIf s z o r
  let passed := nacked.passOrder s z t (o.copy n.zones[z].forward)
  let stood := passed.withRecord z (if o.awaits n.zones[z].forward then some r else none)
  obtain ⟨l, p, hnack⟩ := n.nackIf_eq s z o r
  obtain ⟨l', p', hpass⟩ := nacked.passOrder_eq s z t (o.copy n.zones[z].forward)
  have hreplied : n.Replied nacked s (if o.reply then n.nacks z r else []) := n.replied_nackIf s z o r
  have hforward : nacked.zones[z].forward = n.zones[z].forward :=
    (congrArg (fun m : Node => m.zones[z].forward) hnack :)
  obtain ⟨hnear, hfar⟩ := Node.passOrder_side (n := nacked) (s := s) (z := z)
    (body := o.copy n.zones[z].forward) hroute
  rw [hforward, hreplied.far] at hfar
  have hstrap : stood.strap = n.strap :=
    (congrArg Node.strap hpass :).trans (congrArg Node.strap hnack :)
  have hlast : stood.Replied (n.answered s z t o r) s (if o.reply && !o.awaits n.zones[z].forward then
      [stood.zoneReplyQueued r.tag
        (zoneReplyBody stood z true r.untracked (r.finalOutcome none) r.applied r.failed)] else []) := by
    have hanswered : n.answered s z t o r = if o.reply && !o.awaits n.zones[z].forward then
        stood.sendZoneReply s r.tag
          (zoneReplyBody stood z true r.untracked (r.finalOutcome none) r.applied r.failed) else stood := rfl
    rw [hanswered]
    split
    · exact stood.replied_sendZoneReply s r.tag _
    · exact .of_side rfl rfl
  rw [Node.zoneReplyQueued_congr hstrap] at hlast
  refine ⟨hlast.far.trans hfar, fun k hid hroom => ?_⟩
  obtain ⟨hfirst, hleft⟩ := hreplied.near (k + 1) hid (hroom.mono (by
    have hfew := n.nacks_length z r
    split
    · omega
    · simp))
  have hside : stood.side s = nacked.side s := hnear
  obtain ⟨hsecond, -⟩ := hlast.near k (by rw [Node.validId, hstrap]; exact hid) (by
    rw [hside]
    exact hleft.mono (by split <;> simp))
  rw [hsecond, hside, hfirst, SideUnit.joinAll_append]

/-! ### The local outcome and the copy of the body (R141, R142) -/

theorem Node.localOutcome_eq (n : Node) (z : Fin 32) (m : Mode) (short : List (Fin 4)) :
    n.localOutcome z m short =
      if n.zones[z].equipped = false then none
      else if ∃ g : Fin 4, n.affected z m g = true ∧
        (n.fans.groups[g].state == .tripped || n.fans.groups[g].state == .locked) = true then
        some .groupUnavailable
      else if ∃ g : Fin 4, n.affected z m g = true ∧ g ∈ short then some .supplyShort
      else some .ok := by
  have hany (P : Fin 4 → Bool) : (groupIndices.any fun g => n.affected z m g && P g) = true ↔
      ∃ g, n.affected z m g = true ∧ P g = true := by
    rw [List.any_eq_true]
    exact ⟨fun ⟨g, _, h⟩ => ⟨g, Bool.and_eq_true_iff.1 h⟩,
      fun ⟨g, h⟩ => ⟨g, List.mem_finRange g, Bool.and_eq_true_iff.2 h⟩⟩
  unfold Node.localOutcome
  simp only [hany, Bool.not_eq_true', List.contains_iff_mem]

theorem Node.affected_eq (n : Node) (z : Fin 32) (m : Mode) (g : Fin 4) :
    n.affected z m g = (n.setups[g].config.zone == some z &&
      (m == .quiet || (m == .fire && !n.setups[g].config.fireExempt))) := by
  unfold Node.affected
  cases m <;> rfl

/-- A byte that names a value is that value's code. -/
theorem b8_toNat_self (b : Byte) : b8 b.toNat = b := BitVec.ofNat_toNat _ _

theorem modeCode_of {k : Nat} {m : Mode} (h : modeOf k = some m) : modeCode m = k := by
  unfold modeOf at h
  split at h <;> cases h <;> rfl

theorem directionCode_of {k : Nat} {d : Direction} (h : directionOf k = some d) : directionCode d = k := by
  unfold directionOf at h
  split at h <;> cases h <;> rfl

/-- The copy keeps the three mode bytes of the order (R142). -/
theorem OrderBody.forwarded_eq {body : List Byte} {o : OrderBody} (h : orderBody body = some o) (reply : Bool)
    (budget : Nat) : o.forwarded reply budget = body.take 3 ++ b8 (flag reply) :: put16 budget := by
  unfold orderBody at h
  split at h
  next m d st rq _ _ =>
    split at h
    next mode direction reply' hm hd hr =>
      split at h
      · cases h
        simp only [OrderBody.forwarded, put8, putFlag, modeCode_of hm, directionCode_of hd, b8_toNat_self]
        rfl
      · cases h
    · cases h
  · cases h

theorem OrderBody.awaits_iff (o : OrderBody) (forward : Bool) :
    o.awaits forward = true ↔ o.reply = true ∧ forward = true ∧ 4 ≤ o.budget := by
  simp [OrderBody.awaits]

theorem OrderBody.copy_eq {body : List Byte} {o : OrderBody} (h : orderBody body = some o) (forward : Bool) :
    o.copy forward = body.take 3 ++ (if o.reply = true ∧ forward = true ∧ 4 ≤ o.budget then
      1 :: put16 (o.budget - 2) else [0, 0, 0]) := by
  unfold OrderBody.copy
  simp only [← OrderBody.awaits_iff]
  split <;> exact OrderBody.forwarded_eq h _ _

/-- The record of an accepted order, its counts read from the outcome (R143). -/
theorem newRecord_eq (s : Side) (tag : Byte) (o : OrderBody) (forward : Bool) (outcome : Option ZoneOutcome) :
    newRecord s tag o forward outcome =
      { tag := tag, side := s, localOutcome := outcome, forwardOutcome := .ok,
        applied := if outcome = some .ok then 1 else 0,
        failed := if outcome = some .ok ∨ outcome = none then 0 else 1,
        untracked := forward && decide (o.budget < 4),
        ackWait := if forward = true ∧ 4 ≤ o.budget then some o.budget else none } := by
  unfold newRecord
  cases outcome with
  | none => rfl
  | some x => by_cases hx : x = .ok <;> simp [hx]

/-- The replies of an order one by one: of the record it supersedes, of its nack, and at once (R142 to R144). -/
theorem SideUnit.joinAll_answer (u : SideUnit) (old : Option Record) (superseded : Record → Queued)
    (outcome : Option ZoneOutcome) (nack : ZoneOutcome → Queued) (o : OrderBody) (forward : Bool)
    (last : Queued) :
    ((u.joinAll (old.toList.map superseded)).joinAll
        (if o.reply then (outcome.filter (· != .ok)).toList.map nack else [])).joinAll
        (if o.reply && !o.awaits forward then [last] else []) =
      (let u := old.elim u fun r => u.join (superseded r)
       let u := outcome.elim u fun x => if o.reply = true ∧ x ≠ .ok then u.join (nack x) else u
       if o.reply = true ∧ ¬ (forward = true ∧ 4 ≤ o.budget) then u.join last else u) := by
  have hfirst : u.joinAll (old.toList.map superseded) = old.elim u fun r => u.join (superseded r) := by
    cases old <;> rfl
  have hnack (v : SideUnit) : v.joinAll (if o.reply then (outcome.filter (· != .ok)).toList.map nack else []) =
      outcome.elim v fun x => if o.reply = true ∧ x ≠ .ok then v.join (nack x) else v := by
    cases outcome with
    | none => simp
    | some x =>
      by_cases hx : x = .ok <;> by_cases hreply : o.reply = true <;> simp [Option.filter, hx, hreply]
  have hlast (v : SideUnit) : v.joinAll (if o.reply && !o.awaits forward then [last] else []) =
      if o.reply = true ∧ ¬ (forward = true ∧ 4 ≤ o.budget) then v.join last else v := by
    have hiff : (o.reply && !o.awaits forward) = true ↔
        o.reply = true ∧ ¬ (forward = true ∧ 4 ≤ o.budget) := by
      rw [Bool.and_eq_true, Bool.not_eq_true', ← Bool.not_eq_true, OrderBody.awaits_iff]
      tauto
    simp only [hiff]
    split <;> rfl
  rw [hfirst, hnack, hlast]

/-! ### The statement -/

/-- An order that its entry takes (R139). -/
theorem Node.zoneOrder_of_fit {n : Node} {s : Side} {t : Telegram} {o : OrderBody} {z : Fin 32}
    (hbody : orderBody t.body = some o) (hzone : t.target.toNat = z.val)
    (hstate : n.zones[z].state = .bound) (hside : n.zones[z].inputSide = s) :
    n.zoneOrder s t = n.acceptOrder s z t o := by
  unfold Node.zoneOrder
  rw [hbody, index_of_eq_val hzone]
  dsimp only
  rw [if_neg (not_not.2 hstate), if_neg (not_not.2 hside)]

/-- The node as the order's mode fields are presented (R138, R140). -/
def Node.ordered (n : Node) (z : Fin 32) (o : OrderBody) : Node :=
  (n.modZone z (Zone.applyOrder n.time.uptime o)).presentZone

theorem Node.ordered_frame (n : Node) (z : Fin 32) (o : OrderBody) :
    ∃ D F p, n.ordered z o = { n with
      zones := upd n.zones z (Zone.applyOrder n.time.uptime o), doors := D, fans := F, reports := p } :=
  (n.modZone z (Zone.applyOrder n.time.uptime o)).presentZone_eq

/-- Settles O43: the presentation, the supersession and the answer, each by its own rule. -/
theorem zoneOrderAccepted : Obligations.ZoneOrderAccepted := by
  unfold Obligations.ZoneOrderAccepted
  intro n q side header body o z hears hbody hzone hstate hside
  let heard := n.loadSilence side
  let t := hopped (header.telegram .zoneOrder .zone body)
  let short := ((heard.modZone z (Zone.applyOrder heard.time.uptime o)).fanRun FanRun.present).short
  obtain ⟨shown, hordered⟩ : ∃ m, heard.ordered z o = m := ⟨_, rfl⟩
  obtain ⟨outcome, hlocal⟩ : ∃ x, shown.localOutcome z o.mode short = x := ⟨_, rfl⟩
  obtain ⟨closed, hsuperseded⟩ : ∃ m, shown.closeRecord z (some .superseded) = m := ⟨_, rfl⟩
  have haccepted : heard.acceptOrder side z t o =
      if o.reply then closed.answeredOrder side z t o outcome else closed.unansweredOrder side z t o := by
    rw [← hsuperseded, ← hlocal, ← hordered]
    rfl
  obtain ⟨D, F, p, hshown⟩ := heard.ordered_frame z o
  rw [hordered] at hshown
  obtain ⟨l, p', hclosed⟩ := shown.closeRecord_eq z (some .superseded)
  rw [hsuperseded] at hclosed
  have hzones : closed.zones = upd n.zones z fun e =>
      { Zone.applyOrder n.time.uptime o e with record := none } := by
    rw [hclosed, hshown]
    exact upd_upd n.zones z (Zone.applyOrder n.time.uptime o) fun e => { e with record := none }
  have hentry : closed.zones[z] = { Zone.applyOrder n.time.uptime o n.zones[z] with record := none } := by
    rw [hzones]
    exact upd_self _ _ _
  have hothers : ∀ y : Fin 32, y ≠ z → closed.zones[y] = n.zones[y] := fun y hy => by
    rw [hzones]
    exact upd_ne _ _ _ _ (Ne.symm hy)
  have hforward : closed.zones[z].forward = n.zones[z].forward := by
    rw [hentry]
    rfl
  have hnone : closed.zones[z].record = none := by rw [hentry]
  obtain ⟨r, hr⟩ : ∃ r, newRecord side t.tag o closed.zones[z].forward outcome = r := ⟨_, rfl⟩
  have hreceive : n.receive side (header.telegram .zoneOrder .zone body) = closed.answered side z t o r :=
    (Node.receive_zone hears nofun).trans ((Node.zoneOrder_of_fit (n := heard) hbody hzone hstate hside).trans
      (haccepted.trans ((Node.answered_eq hnone).trans (congrArg _ hr))))
  obtain ⟨l', p'', hanswered⟩ := closed.answered_frame side z t o r
  have hfans : (closed.answered side z t o r).fans = shown.fans :=
    (congrArg Node.fans hanswered :).trans (congrArg Node.fans hclosed :)
  have hrecord : shown.zones[z].record = n.zones[z].record := by
    rw [hshown]
    exact (congrArg Zone.record (upd_self n.zones z (Zone.applyOrder n.time.uptime o)) :)
  have hsides : (∀ old ∈ n.zones[z].record, old.side = side) →
      shown.Replied closed side (shown.recordFinals z (some .superseded)) := fun hold =>
    hsuperseded ▸ shown.replied_closeRecord side z (some .superseded) (hrecord ▸ hold)
  have hline : ∀ s, shown.side s = heard.side s := fun s => by
    rw [hshown]
    rfl
  have hid' : shown.validId = n.validId := by
    rw [hshown]
    rfl
  obtain ⟨hfar, hnear⟩ := Node.answered_sides (n := closed) (s := side) (z := z) (t := t) (o := o) (r := r) nofun
  rw [hforward] at hfar hnear
  refine ⟨_, outcome, next_congr q hreceive, ?frame, ?outcome, ?entry, fun y hy => ?others,
    fun hold => ⟨fun hstill => ?still, fun hpass hup hroom => ?copy, fun hid hroom => ?replies⟩⟩
  case frame =>
    rw [hanswered, hclosed, hshown]
    rfl
  case outcome =>
    rw [hfans, ← hlocal, Node.localOutcome_eq]
    have hequipped : shown.zones[z].equipped = n.zones[z].equipped := by
      rw [hshown]
      exact (congrArg Zone.equipped (upd_self n.zones z (Zone.applyOrder n.time.uptime o)) :)
    have hsetups : shown.setups = n.setups := (congrArg Node.setups hshown :)
    simp only [Node.affected_eq, hequipped, hsetups]
    rfl
  case entry =>
    have hstood : (closed.answered side z t o r).zones[z] = { closed.zones[z] with
        record := if o.awaits closed.zones[z].forward then some r else none } := by
      rw [hanswered]
      exact upd_self _ _ _
    rw [hstood, hentry, ← hr, newRecord_eq, hforward]
    simp only [OrderBody.awaits_iff]
    rfl
  case others =>
    rw [hanswered]
    exact (upd_ne _ _ _ _ (Ne.symm hy)).trans (hothers y hy)
  case still =>
    rw [hstill, (hsides hold).far, hline] at hfar
    exact hfar.trans (n.loadSilence_side_other side)
  case copy =>
    rw [if_pos hpass, (hsides hold).far, hline, show heard.side side.other = n.side side.other from
      n.loadSilence_side_other side, OrderBody.copy_eq hbody] at hfar
    exact hfar.trans (SideUnit.offered_of_hasRoom ((n.isUp_iff _).1 hup) hroom)
  case replies =>
    have hstrap : shown.strap = n.strap := (congrArg Node.strap hshown :)
    have hstrap' : closed.strap = n.strap := (congrArg Node.strap hclosed :).trans hstrap
    have hup : (n.side side).state = .up := (n.isUp_iff side).1 hears.1
    have hheard : (heard.side side).AlarmRoom 3 := by
      have hunit : heard.side side = { n.side side with silence := some n.params.silenceLimit } :=
        n.modSide_side side _
      rw [hunit]
      exact ⟨hup, Nat.add_le_add_right hroom 3⟩
    obtain ⟨hfirst, hleft⟩ := (hsides hold).near 2 (hid'.trans hid) (by
      rw [hline]
      exact hheard.mono (Nat.add_le_add_left (shown.recordFinals_length z _) 2))
    have hall := hnear 0 ((congrArg validStrap hstrap').trans hid) hleft
    simp only [hfirst, hline, SideUnit.joinAll_append, Node.recordFinals, Node.nacks, hrecord,
      Node.zoneReplyQueued_congr hstrap, Node.zoneReplyQueued_congr hstrap'] at hall
    rw [hall, ← hr, newRecord_eq, hforward]
    simp only [Record.nack]
    rw [SideUnit.joinAll_answer]
    cases n.zones[z].record <;> cases outcome <;> rfl

end Sys2Proof.Machine
end

section
/-!
Settles O47 to O49, a BIND: the four checks one by one, the two ways on from them, and the statements.
-/

namespace Sys2Proof.Machine

/-! ### Reception (R55, R58, R152) -/

/-- A BIND that a side hears is shown to the zone unit and routed if it may pass. -/
theorem Node.receive_bind {n : Node} {s : Side} {header : Header} {body : List Byte}
    (hears : n.Hears s (header.telegram .bind .path body)) :
    n.receive s (header.telegram .bind .path body) =
      Node.routeShown s (hopped (header.telegram .bind .path body))
        ((n.loadSilence s).bind s (hopped (header.telegram .bind .path body))) :=
  Node.receive_switch hears nofun

/-- Below the hop limit the incremented hop count does not wrap (R55). -/
theorem hop_succ_toNat {h : Byte} (hlimit : h.toNat < 126) : (h + 1).toNat = h.toNat + 1 := by
  bv_omega

/-- A BIND at an activating node that fails a check is answered with its outcome (R153). -/
theorem Node.bind_of_error {n : Node} {s : Side} {t : Telegram} {b : BindBody} {o : BindOutcome}
    (hid : n.validId = true) (hbody : bindBody t.body = some b)
    (hactive : t.hop = t.target ∨ b.activating ≤ t.hop.toNat)
    (hchecks : n.bindChecks s (t.hop == t.target) b = .error o) :
    n.bind s t = (n.sendTo s (bindReplyTelegram n t.tag b.zone o), .endsHere) := by
  unfold Node.bind
  simp [hid, hbody, hactive, hchecks]

/-- A BIND at an activating node that passes the checks (R155, R156). -/
theorem Node.bind_of_ok {n : Node} {s : Side} {t : Telegram} {b : BindBody} {z : Fin 32} {F : Fans}
    (hid : n.validId = true) (hbody : bindBody t.body = some b)
    (hactive : t.hop = t.target ∨ b.activating ≤ t.hop.toNat)
    (hchecks : n.bindChecks s (t.hop == t.target) b = .ok (z, F)) :
    n.bind s t = (n.bindPassed s (t.hop == t.target) t z F, .pass) := by
  unfold Node.bind
  simp [hid, hbody, hactive, hchecks]

/-! ### The four checks (R153) -/

section
variable {n : Node} {s : Side} {forThis : Bool} {b : BindBody} {z : Fin 32}

theorem Node.bindChecks_of_down (hdown : n.isUp s.other = false) :
    n.bindChecks s false b = .error .sideDown := by
  simp [Node.bindChecks, hdown]

/-- Past the first check the outcome depends on the zone alone. -/
theorem Node.bindChecks_of_way (hway : forThis = true ∨ n.isUp s.other = true) :
    n.bindChecks s forThis b = n.bindChecks s true b := by
  obtain rfl | hup := hway
  · rfl
  · simp [Node.bindChecks, hup]

theorem Node.bindChecks_of_zone (hzone : 32 ≤ b.zone) : n.bindChecks s true b = .error .badZone := by
  have hindex : index 32 b.zone = none := by simp [index, hzone]
  simp [Node.bindChecks, hindex]

theorem Node.bindChecks_of_misfit (hzone : b.zone = z.val)
    (hmisfit : n.sideFits s b.takeover n.zones[z] = false) :
    n.bindChecks s true b = .error .wrongSide := by
  unfold Node.bindChecks
  rw [index_of_eq_val hzone]
  dsimp only
  rw [if_neg (by simp), if_pos (by rw [hmisfit]; rfl)]

theorem Node.sideFits_of_free {e : Zone} {takeover : Bool} (h : e.state = .free) :
    n.sideFits s takeover e = true := by
  rw [Node.sideFits, h]

theorem Node.sideFits_of_bound {e : Zone} {takeover : Bool} (h : e.state = .bound) :
    n.sideFits s takeover e = true ↔
      e.inputSide = s ∨ (takeover = true ∧ (n.side e.inputSide).state = .down) := by
  rw [Node.sideFits, h]
  simp

theorem Node.bindChecks_of_short (hzone : b.zone = z.val) (hfree : n.zones[z].state = .free)
    (hshort : n.fans.reserve z (n.reserveSum z) = none) : n.bindChecks s true b = .error .supplyShort := by
  unfold Node.bindChecks
  rw [index_of_eq_val hzone]
  dsimp only
  rw [if_neg (by simp), if_neg (by rw [Node.sideFits_of_free hfree]; simp), if_pos hfree, hshort]

theorem Node.bindChecks_of_reserved {F : Fans} (hzone : b.zone = z.val) (hfree : n.zones[z].state = .free)
    (hreserved : n.fans.reserve z (n.reserveSum z) = some F) : n.bindChecks s true b = .ok (z, F) := by
  unfold Node.bindChecks
  rw [index_of_eq_val hzone]
  dsimp only
  rw [if_neg (by simp), if_neg (by rw [Node.sideFits_of_free hfree]; simp), if_pos hfree, hreserved]

theorem Node.bindChecks_of_bound (hzone : b.zone = z.val) (hbound : n.zones[z].state = .bound)
    (hfits : n.zones[z].inputSide = s ∨
      (b.takeover = true ∧ (n.side n.zones[z].inputSide).state = .down)) :
    n.bindChecks s true b = .ok (z, n.fans) := by
  unfold Node.bindChecks
  rw [index_of_eq_val hzone]
  dsimp only
  rw [if_neg (by simp), if_neg (by rw [(Node.sideFits_of_bound hbound).2 hfits]; simp),
    if_neg (by rw [hbound]; exact nofun)]
end

theorem Node.loadSilence_state (n : Node) (s a : Side) : ((n.loadSilence s).side a).state = (n.side a).state := by
  cases s <;> cases a <;> rfl

/-! ### The refusals -/

/-- Settles O49: each check that fails, then the reply. -/
theorem bindRefused : Obligations.BindRefused := by
  unfold Obligations.BindRefused
  intro n q side header body b code hears hbody hid hfails
  let heard := n.loadSilence side
  let t := hopped (header.telegram .bind .path body)
  have hhop : t.hop.toNat = header.hop.toNat + 1 := hop_succ_toNat hears.2.2
  have hchecks : (t.hop = t.target ∨ b.activating ≤ t.hop.toNat) ∧
      ∃ o, b8 (bindOutcomeCode o) = code ∧ heard.bindChecks side (t.hop == t.target) b = .error o := by
    obtain ⟨hnot, hactive, hdown, rfl⟩ | ⟨hway, hfails⟩ := hfails
    · have hthere : (t.hop == t.target) = false := beq_eq_false_iff_ne.2 hnot
      have hdown' : heard.isUp side.other = false := by
        rw [Node.isUp, Node.loadSilence_state]
        exact hdown
      refine ⟨.inr (hhop ▸ hactive), .sideDown, rfl, ?_⟩
      rw [hthere, Node.bindChecks_of_down hdown']
    · have hway' : (t.hop == t.target) = true ∨ heard.isUp side.other = true := by
        rw [Node.isUp, Node.loadSilence_state]
        exact hway.imp (fun h => beq_iff_eq.2 h) And.right
      rw [Node.bindChecks_of_way hway']
      refine ⟨hway.imp_right fun h => hhop ▸ h.1, ?_⟩
      obtain ⟨hzone, rfl⟩ | ⟨z, hzone, rfl, hmisfit⟩ | ⟨z, hzone, rfl, hfree, hshort⟩ := hfails
      · exact ⟨.badZone, rfl, Node.bindChecks_of_zone hzone⟩
      · refine ⟨.wrongSide, rfl, Node.bindChecks_of_misfit (n := heard) hzone ?_⟩
        obtain hbinding | ⟨hbound, hside, hkeep⟩ := hmisfit
        · change heard.sideFits side b.takeover n.zones[z] = false
          rw [Node.sideFits, hbinding]
        · refine Bool.eq_false_iff.2 fun hfits => ?_
          obtain h | ⟨htakeover, hdown⟩ := (Node.sideFits_of_bound (n := heard) hbound).1 hfits
          · exact hside h
          · rw [Node.loadSilence_state] at hdown
            exact hkeep.elim (fun h => by simp [h] at htakeover) fun h => h hdown
      · exact ⟨.supplyShort, rfl, Node.bindChecks_of_short (n := heard) hzone hfree hshort⟩
  obtain ⟨hactive, o, rfl, hchecks⟩ := hchecks
  refine next_congr q ((Node.receive_bind hears).trans ?_)
  rw [Node.bind_of_error (n := heard) (b := b) hid hbody hactive hchecks]
  rfl

/-! ### The BIND at its target (R156, R161) -/

theorem Node.reportTakeover_eq (n : Node) (z : Fin 32) (s : Side) (old : Zone) :
    ∃ p, n.reportTakeover z s old = { n with reports := p } := by
  unfold Node.reportTakeover
  split
  · exact n.raise_eq _
  · exact ⟨_, rfl⟩

theorem Node.bindPassed_here (n : Node) (s : Side) (t : Telegram) (z : Fin 32) (F : Fans) :
    ∃ l D F' p, n.bindPassed s true t z F = { n with
      zones := upd n.zones z fun e => e.boundAtTarget s t.tag (n.hasLocal z)
      line := l, doors := D, fans := F', reports := p } := by
  let entered : Node := ({ n with fans := F }).modZone z fun e => e.boundAtTarget s t.tag (n.hasLocal z)
  obtain ⟨p, hreported⟩ := entered.reportTakeover_eq z s n.zones[z]
  let reported := entered.reportTakeover z s n.zones[z]
  obtain ⟨l, p', hsent⟩ := reported.sendTo_eq s (bindReplyTelegram reported t.tag z .ok)
  obtain ⟨D, F', p'', hshown⟩ := (reported.sendTo s (bindReplyTelegram reported t.tag z .ok)).presentZone_eq
  refine ⟨l, D, F', p'', hshown.trans ?_⟩
  rw [hsent, show reported = _ from hreported]
  rfl

/-- What a BIND that has acted at its target leaves: it is consumed (R56). -/
theorem Node.receive_bind_here {n : Node} {s : Side} {header : Header} {body : List Byte} {b : BindBody}
    {z : Fin 32} {F : Fans} (H : n.Addressed s (header.telegram .bind .path body))
    (hbody : bindBody body = some b)
    (hchecks : (n.loadSilence s).bindChecks s true b = .ok (z, F)) :
    ∃ l D F' p, n.receive s (header.telegram .bind .path body) = { n with
      zones := upd n.zones z fun e => e.boundAtTarget s header.tag (n.hasLocal z)
      line := l, doors := D, fans := F', reports := p } := by
  obtain ⟨hears, hhere, hid⟩ := H
  let t := hopped (header.telegram .bind .path body)
  have hforThis : (t.hop == t.target) = true := beq_iff_eq.2 hhere
  obtain ⟨l, D, F', p, hpassed⟩ := (n.loadSilence s).bindPassed_here s t z F
  have hconsumed : ((n.loadSilence s).bindPassed s true t z F).routePath s t =
      (n.loadSilence s).bindPassed s true t z F := by
    have hid' : ((n.loadSilence s).bindPassed s true t z F).validId = true := by
      rw [hpassed]
      exact hid
    rw [Node.routePath, hforThis, hid']
    rfl
  refine ⟨l, D, F', p, (Node.receive_bind hears).trans ?_⟩
  rw [Node.bind_of_ok (n := n.loadSilence s) (b := b) hid hbody (.inl hhere) (by rw [hforThis]; exact hchecks),
    hforThis]
  exact hconsumed.trans hpassed

theorem Zone.boundAtTarget_of_free {e : Zone} (h : e.state = .free) (s : Side) (tag : Byte)
    (hasLocal : Bool) : e.boundAtTarget s tag hasLocal = { e with
      state := .bound, boundBefore := false, inputSide := s, forward := false, equipped := hasLocal,
      bindTag := tag, lapseNote := none } := by
  simp only [Zone.boundAtTarget, h, if_true]

theorem Zone.boundAtTarget_of_bound {e : Zone} (h : e.state = .bound) (s : Side) (tag : Byte)
    (hasLocal : Bool) : e.boundAtTarget s tag hasLocal = { e with
      boundBefore := false, inputSide := s, forward := false, bindTag := tag, lapseNote := none } := by
  simp [Zone.boundAtTarget, h]

/-- Settles O47. -/
theorem bindAtTarget : Obligations.BindAtTarget := by
  unfold Obligations.BindAtTarget
  intro n q side header body b z H hbody hzone
  refine ⟨fun F hfree hreserved => ?free, fun hbound hfits => ?bound⟩
  case free =>
    obtain ⟨l, D, F', p, hreceive⟩ := Node.receive_bind_here H hbody
      (Node.bindChecks_of_reserved (n := n.loadSilence side) hzone hfree hreserved)
    have hzones : (upd n.zones z fun e => e.boundAtTarget side header.tag (n.hasLocal z)) =
        upd n.zones z fun e => { e with
          state := .bound, boundBefore := false, inputSide := side, forward := false,
          equipped := n.hasLocal z, bindTag := header.tag, lapseNote := none } :=
      upd_congr (Zone.boundAtTarget_of_free hfree _ _ _)
    exact ⟨_, next_congr q hreceive, hzones, rfl⟩
  case bound =>
    obtain ⟨l, D, F', p, hreceive⟩ := Node.receive_bind_here H hbody
      (Node.bindChecks_of_bound (n := n.loadSilence side) hzone hbound
        (hfits.imp_right fun ⟨h, hdown⟩ => ⟨h, (n.loadSilence_state _ _).trans hdown⟩))
    have hzones : (upd n.zones z fun e => e.boundAtTarget side header.tag (n.hasLocal z)) =
        upd n.zones z fun e => { e with
          boundBefore := false, inputSide := side, forward := false, bindTag := header.tag,
          lapseNote := none } :=
      upd_congr (Zone.boundAtTarget_of_bound hbound _ _ _)
    exact ⟨_, next_congr q hreceive, hzones, rfl⟩

/-! ### The BIND on its way (R155) -/

/-- A BIND that has acted at a node on its way goes on out of the opposite side. -/
theorem Node.receive_bind_passing {n : Node} {s : Side} {header : Header} {body : List Byte} {b : BindBody}
    {z : Fin 32} {F : Fans} (hears : n.Hears s (header.telegram .bind .path body))
    (hbody : bindBody body = some b) (hid : n.validId = true) (hnot : header.hop + 1 ≠ header.target)
    (hactive : b.activating ≤ header.hop.toNat + 1) (hup : n.isUp s.other = true)
    (hroom : (n.side s.other).hasRoom header.cls = true)
    (hchecks : (n.loadSilence s).bindChecks s true b = .ok (z, F)) :
    n.receive s (header.telegram .bind .path body) =
      ({ n.loadSilence s with
        fans := F
        zones := upd n.zones z fun e => e.enterBinding s header.tag (n.hasLocal z) n.params.bindWait } :
          Node).modSide s.other fun u =>
        u.join ⟨{ header.telegram .bind .path body with hop := header.hop + 1 }, .forwarded s⟩ := by
  let t := hopped (header.telegram .bind .path body)
  let entered : Node := { n.loadSilence s with
    fans := F
    zones := upd n.zones z fun e => e.enterBinding s header.tag (n.hasLocal z) n.params.bindWait }
  have hforThis : (t.hop == t.target) = false := beq_eq_false_iff_ne.2 hnot
  have hup' : (n.loadSilence s).isUp s.other = true := by
    rw [Node.isUp, Node.loadSilence_state]
    exact hup
  have hhop : t.hop.toNat = header.hop.toNat + 1 := hop_succ_toNat hears.2.2
  have hbind : (n.loadSilence s).bind s t = (entered, .pass) := by
    rw [Node.bind_of_ok (n := n.loadSilence s) (t := t) (b := b) hid hbody (.inr (hhop ▸ hactive))
      (by rw [Node.bindChecks_of_way (.inr hup')]; exact hchecks), hforThis]
    rfl
  have hroute : entered.routePath s t = entered.forward s t := Node.routePath_of_not_here (.inl hnot)
  rw [Node.receive_bind hears, hbind]
  refine hroute.trans (Node.forward_of_hasRoom (n := entered) hup' ?_)
  have hfar : entered.side s.other = n.side s.other := n.loadSilence_side_other s
  rw [hfar]
  exact hroom

theorem Zone.enterBinding_of_free {e : Zone} (h : e.state = .free) (s : Side) (tag : Byte) (hasLocal : Bool)
    (wait : Nat) : e.enterBinding s tag hasLocal wait = { e with
      state := .binding, boundBefore := false, inputSide := s, forward := false, equipped := hasLocal,
      bindTag := tag, bindWait := Timer.seconds wait, lapseNote := none } := by
  simp only [Zone.enterBinding, h]

theorem Zone.enterBinding_of_bound {e : Zone} {s : Side} (h : e.state = .bound) (hside : e.inputSide = s)
    (tag : Byte) (hasLocal : Bool) (wait : Nat) : e.enterBinding s tag hasLocal wait = { e with
      state := .binding, boundBefore := true, forward := false, savedInputSide := some s,
      savedForward := some e.forward, bindTag := tag, bindWait := Timer.seconds wait, lapseNote := none } := by
  simp only [Zone.enterBinding, h, hside]

/-- Settles O48. -/
theorem bindEntered : Obligations.BindEntered := by
  unfold Obligations.BindEntered
  intro n q side header body b z hears hbody hzone hid hnot hactive hup hroom
  refine ⟨fun F hfree hreserved => ?free, fun hbound hside => ?bound⟩
  case free =>
    have hreceive := Node.receive_bind_passing hears hbody hid hnot hactive hup hroom
      (Node.bindChecks_of_reserved (n := n.loadSilence side) hzone hfree hreserved)
    refine next_congr q (hreceive.trans ?_)
    have hzones : (upd n.zones z fun e => e.enterBinding side header.tag (n.hasLocal z) n.params.bindWait) =
        upd n.zones z fun e => { e with
          state := .binding, boundBefore := false, inputSide := side, forward := false,
          equipped := n.hasLocal z, bindTag := header.tag,
          bindWait := Timer.seconds n.params.bindWait, lapseNote := none } :=
      upd_congr (Zone.enterBinding_of_free hfree _ _ _ _)
    rw [hzones]
  case bound =>
    have hreceive := Node.receive_bind_passing hears hbody hid hnot hactive hup hroom
      (Node.bindChecks_of_bound (n := n.loadSilence side) hzone hbound (.inl hside))
    refine next_congr q (hreceive.trans ?_)
    have hzones : (upd n.zones z fun e => e.enterBinding side header.tag (n.hasLocal z) n.params.bindWait) =
        upd n.zones z fun e => { e with
          state := .binding, boundBefore := true, forward := false, savedInputSide := some side,
          savedForward := some e.forward, bindTag := header.tag,
          bindWait := Timer.seconds n.params.bindWait, lapseNote := none } :=
      upd_congr (Zone.enterBinding_of_bound hbound hside _ _ _)
    rw [hzones]

end Sys2Proof.Machine
end

section
/-!
Settles O50 to O52, the end of a bind or of an entry: BIND_REPLY, TEARDOWN and UNBIND, and the two zone timers.
First the reserve of an entry that is freed, which no step of the groups touches again.
-/

namespace Sys2Proof.Machine

/-! ### Freeing an entry (R85, R136) -/

/-- The entry is FREE and holds no reserve. -/
def Node.Freed (n : Node) (z : Fin 32) : Prop := n.zones[z].state = .free ∧ n.fans.reserves[z] = {}

/-- A step of the groups leaves the reserves of FREE entries alone. -/
theorem Node.Freed.withFans {n : Node} {z : Fin 32} (h : n.Freed z) {f : FanEnv → FanRun → FanRun}
    (hf : Fans.Outside n.fanEnv (fun _ => False) n.fans (n.fanRun f).fans) : (n.withFans f).Freed z := by
  obtain ⟨hstate, hreserve⟩ := h
  obtain ⟨p, hran⟩ := n.withFans_eq f
  have hfree : n.fanEnv.zoneHeld z = false := by
    change (n.zones[z].state != .free) = false
    rw [hstate]
    rfl
  rw [hran]
  exact ⟨hstate, (hf.reserve z hfree).trans hreserve⟩

theorem Node.Freed.presentGroups {n : Node} {z : Fin 32} (h : n.Freed z) : n.presentGroups.Freed z :=
  h.withFans ((Fans.Outside.closed n.fanEnv (fun _ => False) n.fans).present (fun h => h.modGroup _ _)
    (.refl _ _ _))

theorem Node.Freed.examineQueue {n : Node} {z : Fin 32} (h : n.Freed z) : n.examineQueue.Freed z :=
  h.withFans ((Fans.Outside.closed n.fanEnv (fun _ => False) n.fans).examine _ (.refl _ _ _))

theorem Node.Freed.withDoor {n : Node} {z : Fin 32} (h : n.Freed z) (d : Fin 2)
    (f : DoorEnv → DoorRun → DoorRun) : (n.withDoor d f).Freed z := by
  unfold Node.withDoor
  dsimp only
  obtain ⟨p, hraised⟩ := Node.raiseAll_eq (f (n.doorEnv d) { door := n.doors[d], raised := [] }).raised
    { n with doors := n.doors.set d (f (n.doorEnv d) { door := n.doors[d], raised := [] }).door }
  rw [hraised]
  exact Node.Freed.presentGroups h

theorem Node.Freed.presentZone {n : Node} {z : Fin 32} (h : n.Freed z) : n.presentZone.Freed z :=
  (h.presentGroups.withDoor 0 _).withDoor 1 _

/-- An entry that enters FREE takes its FREE values, and its reserve with it (R136, R85). -/
theorem Node.freeEntry_spec (n : Node) (z : Fin 32) :
    ∃ D F p, n.freeEntry z = { n with
        zones := upd n.zones z Zone.freed, doors := D, fans := F, reports := p } ∧
      F.reserves[z] = {} := by
  have hfreed : ({ n with zones := upd n.zones z Zone.freed, fans := n.fans.release z } : Node).Freed z :=
    ⟨congrArg Zone.state (upd_self n.zones z Zone.freed), Fans.release_self n.fans z⟩
  have hreserve : (n.freeEntry z).fans.reserves[z] = {} := hfreed.presentZone.examineQueue.2
  obtain ⟨D, F, p, h⟩ := n.freeEntry_eq z
  rw [h] at hreserve
  exact ⟨D, F, p, h, hreserve⟩

/-- A torn entry has closed its record and is freed (R151, R162, R163). -/
theorem Node.tearEntry_spec (n : Node) (z : Fin 32) :
    ∃ l D F p, n.tearEntry z = { n with
        zones := upd n.zones z Zone.freed, line := l, doors := D, fans := F, reports := p } ∧
      F.reserves[z] = {} := by
  obtain ⟨l, p, hclosed⟩ := n.closeRecord_eq z (some .zoneTornDown)
  obtain ⟨D, F, p', hfreed, hreserve⟩ := (n.closeRecord z (some .zoneTornDown)).freeEntry_spec z
  refine ⟨l, D, F, p', ?_, hreserve⟩
  have hzones : upd (upd n.zones z fun e => { e with record := none }) z Zone.freed =
      upd n.zones z Zone.freed := upd_upd _ _ _ _
  unfold Node.tearEntry
  rw [hfreed, hclosed]
  exact congrArg (fun Z => { n with zones := Z, line := l, doors := D, fans := F, reports := p' }) hzones

/-! ### The zone timers (R149, R158, R160) -/

/-- The undoing of a bind by the bound-before value (R158). -/
theorem Node.undoBind_spec (n : Node) (z : Fin 32) :
    (n.zones[z].boundBefore = true → n.undoBind z = n.modZone z Zone.restored) ∧
      (n.zones[z].boundBefore = false → n.undoBind z = n.freeEntry z) := by
  refine ⟨fun h => if_pos h, fun h => if_neg ?_⟩
  rw [h]
  exact Bool.false_ne_true

/-- Settles O52. -/
theorem zoneTimersExpire : Obligations.ZoneTimersExpire := by
  unfold Obligations.ZoneTimersExpire
  intro n q z
  refine ⟨fun r hrecord hwait => ?ack, fun hwait => ?bind⟩
  case ack =>
    have hwaiting : n.zones[z].waiting = true := by
      rw [Zone.waiting, hrecord]
      exact hwait
    have hexpire : n.expireAckWait z = n.closeRecord z (some .downstreamTimeout) := if_pos hwaiting
    obtain ⟨l, p, hclosed⟩ := n.closeRecord_eq z (some .downstreamTimeout)
    exact ⟨_, next_congr q (hexpire.trans hclosed), rfl, rfl⟩
  case bind =>
    let noted (e : Zone) : Zone := { e with lapseNote := some (n.zones[z].bindTag, n.zones[z].inputSide.other) }
    have hexpire : n.expireBindWait z = ((n.undoBind z).modZone z noted).raise
        { kind := .bindTimeout, object := z, severity := .info,
          detail := 256 * n.zones[z].bindTag.toNat + flag n.zones[z].boundBefore } := if_pos hwait
    obtain ⟨p, hraised⟩ := ((n.undoBind z).modZone z noted).raise_eq
      { kind := .bindTimeout, object := z, severity := .info,
        detail := 256 * n.zones[z].bindTag.toNat + flag n.zones[z].boundBefore }
    obtain ⟨hrestored, hfreed⟩ := n.undoBind_spec z
    refine ⟨_, next_congr q (hexpire.trans hraised), fun hbefore => ?before, fun hbefore => ?free, ?frame⟩
    case before =>
      rw [hrestored hbefore]
      refine (upd_upd n.zones z Zone.restored noted).trans (upd_congr ?_)
      rfl
    case free =>
      obtain ⟨D, F, p', hfree, hreserve⟩ := n.freeEntry_spec z
      rw [hfreed hbefore, hfree]
      refine ⟨hreserve, (upd_upd n.zones z Zone.freed noted).trans (upd_congr ?_)⟩
      rfl
    case frame =>
      obtain ⟨Z, D, F, p', hundone⟩ := n.undoBind_eq z
      rw [hundone]
      rfl

/-! ### TEARDOWN and UNBIND (R162, R163) -/

theorem Node.teardown_of_fit {n : Node} {s : Side} {t : Telegram} {z : Fin 32} (hbody : t.body = [])
    (hzone : t.target.toNat = z.val) (hbound : n.zones[z].state = .bound) (hside : n.zones[z].inputSide = s) :
    n.teardown s t = (if n.zones[z].forward then n.forward s t else n).tearEntry z := by
  unfold Node.teardown
  rw [hbody, index_of_eq_val hzone]
  exact if_pos ⟨hbound, hside⟩

/-- An UNBIND whose body passes, at the entry it names (R162). -/
theorem Node.unbind_of_fit {n : Node} {s : Side} {t : Telegram} {zb a : Byte} {z : Fin 32}
    (hid : n.validId = true) (hbody : t.body = [zb, a]) (hlow : 1 ≤ a.toNat) (hhigh : a.toNat ≤ 126)
    (hzone : zb.toNat = z.val) (hbound : n.zones[z].state = .bound) (hside : n.zones[z].inputSide = s) :
    n.unbind s t =
      if t.hop.toNat + 1 = a.toNat then (n.modZone z fun e => { e with forward := false }, .pass)
      else if a.toNat ≤ t.hop.toNat then (n.tearEntry z, .pass)
      else (n, .pass) := by
  have hunbind : unbindBody t.body = some (zb.toNat, a.toNat) := by
    rw [hbody]
    exact if_pos ⟨hlow, hhigh⟩
  unfold Node.unbind
  rw [if_neg (by simp [hid]), hunbind]
  dsimp only
  rw [index_of_eq_val hzone]
  exact if_pos ⟨hbound, hside⟩

theorem Node.routeShown_pass (n : Node) (s : Side) (t : Telegram) :
    Node.routeShown s t (n, .pass) = n.routePath s t := rfl

/-- An UNBIND that may pass is consumed or forwarded (R56). -/
theorem Node.routePath_of_unbind {n : Node} {s : Side} {t : Telegram} (hkind : t.kind = .unbind) :
    ∃ l p, n.routePath s t = { n with line := l, reports := p } := by
  unfold Node.routePath
  split
  · exact ⟨n.line, n.reports, by rw [Node.deliver, hkind]⟩
  · exact n.forward_eq s t

/-- Settles O51. -/
theorem entryFreed : Obligations.EntryFreed := by
  unfold Obligations.EntryFreed
  intro n q side header z hbound hside
  refine ⟨fun hears hzone => ?teardown, fun zb a hears hid hzone hlow hhigh hactive => ?unbind⟩
  case teardown =>
    let t := hopped (header.telegram .teardown .zone [])
    let passed := if n.zones[z].forward then (n.loadSilence side).forward side t else n.loadSilence side
    have hreceive : n.receive side (header.telegram .teardown .zone []) = passed.tearEntry z :=
      (Node.receive_zone hears nofun).trans
        (Node.teardown_of_fit (n := n.loadSilence side) (t := t) rfl hzone hbound hside)
    have hpassed : ∃ l p, passed = { n.loadSilence side with line := l, reports := p } := by
      unfold passed
      split
      · exact (n.loadSilence side).forward_eq side t
      · exact ⟨_, _, rfl⟩
    obtain ⟨l, p, hpassed⟩ := hpassed
    obtain ⟨l', D, F, p', htorn, hreserve⟩ := passed.tearEntry_spec z
    rw [htorn, hpassed] at hreceive
    exact ⟨_, next_congr q hreceive, rfl, hreserve, rfl⟩
  case unbind =>
    let t := hopped (header.telegram .unbind .path [zb, a])
    have hhop : t.hop.toNat = header.hop.toNat + 1 := hop_succ_toNat hears.2.2
    have hreceive : n.receive side (header.telegram .unbind .path [zb, a]) =
        Node.routeShown side t ((n.loadSilence side).unbind side t) := Node.receive_switch hears nofun
    rw [Node.unbind_of_fit (n := n.loadSilence side) (t := t) hid rfl hlow hhigh hzone hbound hside, hhop]
      at hreceive
    by_cases hshort : a.toNat = header.hop.toNat + 2
    · rw [if_pos hshort.symm, Node.routeShown_pass] at hreceive
      obtain ⟨l, p, hrouted⟩ := Node.routePath_of_unbind (s := side) (t := t)
        (n := (n.loadSilence side).modZone z fun e => { e with forward := false }) rfl
      exact ⟨_, next_congr q (hreceive.trans hrouted), fun _ => ⟨rfl, rfl, rfl⟩, fun h => by omega, rfl⟩
    · rw [if_neg (Ne.symm hshort), if_pos (by omega), Node.routeShown_pass] at hreceive
      obtain ⟨l, D, F, p, htorn, hreserve⟩ := (n.loadSilence side).tearEntry_spec z
      obtain ⟨l', p', hrouted⟩ := Node.routePath_of_unbind (s := side) (t := t)
        (n := (n.loadSilence side).tearEntry z) rfl
      have hmoved := hreceive.trans hrouted
      rw [htorn] at hmoved
      exact ⟨_, next_congr q hmoved, fun h => absurd h hshort, fun _ => ⟨hreserve, rfl⟩, rfl⟩

/-! ### BIND_REPLY (R157 to R159) -/

section
variable {n : Node} {s : Side} {t : Telegram} {zb ob id : Byte} {z : Fin 32}

theorem Node.bindReply_of_match (hid : n.validId = true) (hbody : t.body = [zb, ob, id])
    (hzone : zb.toNat = z.val) (hcode : ob.toNat ≤ 5) (hmatch : n.zones[z].matchesReply s t = true) :
    n.bindReply s t = (if ob = 0 then n.confirmBind z else n.undoBind z, t) := by
  unfold Node.bindReply
  rw [if_neg (by simp [hid]), hbody]
  dsimp only
  rw [index_of_eq_val hzone]
  dsimp only
  rw [if_neg (not_lt.2 hcode), if_pos hmatch]

theorem Node.bindReply_of_lapsed (hid : n.validId = true) (hbody : t.body = [zb, ob, id])
    (hzone : zb.toNat = z.val) (hcode : ob.toNat ≤ 5) (hmatch : n.zones[z].matchesReply s t = false)
    (hnote : n.zones[z].lapseNote = some (t.tag, s)) :
    n.bindReply s t = (n.modZone z fun e => { e with lapseNote := none },
      if ob = 0 then lapsedReply n zb t else t) := by
  unfold Node.bindReply
  rw [if_neg (by simp [hid]), hbody]
  dsimp only
  rw [index_of_eq_val hzone]
  dsimp only
  rw [if_neg (not_lt.2 hcode), if_neg (Bool.eq_false_iff.1 hmatch), if_pos hnote]
end

theorem Node.confirmBind_eq (n : Node) (z : Fin 32) :
    ∃ D F p, n.confirmBind z = { n with
      zones := upd n.zones z Zone.confirmed, doors := D, fans := F, reports := p } := by
  unfold Node.confirmBind
  dsimp only
  split
  · exact ⟨_, _, _, rfl⟩
  · exact (n.modZone z Zone.confirmed).presentZone_eq

/-- Settles O50: the match, then the lapse note. -/
theorem bindReplyTaken : Obligations.BindReplyTaken := by
  unfold Obligations.BindReplyTaken
  intro n q side both header zb ob id z hears hid hzone hcode
  let heard := n.loadSilence side
  let t := hopped (header.telegram .bindReply (endRoute both) [zb, ob, id])
  have hreceive : n.receive side (header.telegram .bindReply (endRoute both) [zb, ob, id]) =
      (heard.bindReply side t).1.forward side (heard.bindReply side t).2 := Node.receive_end hears nofun
  refine ⟨fun hbinding htag hside => ?matched, fun hother hnote hup hroom => ?lapsed⟩
  case matched =>
    have hmatch : heard.zones[z].matchesReply side t = true := by
      change (n.zones[z].state == .binding && n.zones[z].bindTag == header.tag &&
        side == n.zones[z].inputSide.other) = true
      rw [hbinding, htag, ← hside]
      simp
    rw [Node.bindReply_of_match (n := heard) (t := t) hid rfl hzone hcode hmatch] at hreceive
    obtain ⟨l, p, hforward⟩ := (if ob = 0 then heard.confirmBind z else heard.undoBind z).forward_eq side t
    refine ⟨_, next_congr q (hreceive.trans hforward), fun hok => ?_, fun hok hbefore => ?_,
      fun hok hbefore => ?_, ?_⟩
    · obtain ⟨D, F, p', hconfirmed⟩ := heard.confirmBind_eq z
      rw [if_pos hok, hconfirmed]
      rfl
    · rw [if_neg hok, (heard.undoBind_spec z).1 hbefore]
      rfl
    · obtain ⟨D, F, p', hfreed, hreserve⟩ := heard.freeEntry_spec z
      rw [if_neg hok, (heard.undoBind_spec z).2 hbefore, hfreed]
      exact ⟨hreserve, rfl⟩
    · by_cases hok : ob = 0
      · obtain ⟨D, F, p', hconfirmed⟩ := heard.confirmBind_eq z
        rw [if_pos hok, hconfirmed]
        rfl
      · obtain ⟨Z, D, F, p', hundone⟩ := heard.undoBind_eq z
        rw [if_neg hok, hundone]
        rfl
  case lapsed =>
    have hmatch : heard.zones[z].matchesReply side t = false := by
      change (n.zones[z].state == .binding && n.zones[z].bindTag == header.tag &&
        side == n.zones[z].inputSide.other) = false
      rw [beq_eq_false_iff_ne.2 hother]
      rfl
    let cleared := heard.modZone z fun e => { e with lapseNote := none }
    let passed : Telegram := { header.telegram .bindReply (endRoute both)
      [zb, if ob = 0 then 5 else ob, if ob = 0 then n.idByte else id] with hop := header.hop + 1 }
    have hpassed : (if ob = 0 then lapsedReply heard zb t else t) = passed := by
      by_cases hok : ob = 0
      · simp only [passed, hok, if_true]
        rfl
      · simp only [passed, hok, if_false]
        rfl
    rw [Node.bindReply_of_lapsed (n := heard) (t := t) hid rfl hzone hcode hmatch hnote, hpassed] at hreceive
    have hup' : cleared.isUp side.other = true := by
      rw [Node.isUp, show cleared.side side.other = n.side side.other from n.loadSilence_side_other side]
      exact hup
    have hroom' : (cleared.side side.other).hasRoom header.cls = true := by
      rw [show cleared.side side.other = n.side side.other from n.loadSilence_side_other side]
      exact hroom
    exact next_congr q (hreceive.trans (Node.forward_of_hasRoom (n := cleared) (t := passed) hup' hroom'))

end Sys2Proof.Machine
end
